-- ==== Sys2Proof/Word.lean ====
section
/-! DEFINITION. The value types of the FCU: the byte, the 16-bit CRC, the 32-bit operand and the 8-byte frame
(00_scope.md R9, R10). All values are unsigned (R9). -/

namespace Sys2Proof

/-- A byte is 8 bits everywhere (20_memory.md R50). -/
abbrev Byte := BitVec 8

/-- A CRC value: 16 bits, unsigned (10_state.md R21). -/
abbrev Crc := BitVec 16

/-- A frame operand: 32 bits, unsigned (30_encoding.md R83, R84). -/
abbrev Operand := BitVec 32

/-- Eight bytes `F[0]` to `F[7]`; `f0` is the first byte written to or read from the transport
(00_scope.md R10; 20_memory.md R56). -/
structure Frame where
  f0 : Byte
  f1 : Byte
  f2 : Byte
  f3 : Byte
  f4 : Byte
  f5 : Byte
  f6 : Byte
  f7 : Byte
deriving DecidableEq, Repr, Inhabited

end Sys2Proof
end

