-- ==== Sys2Proof/Config.lean ====
section
/-! DEFINITION. What is fixed before reset: the constants of 00_scope.md R5, and, as constants WITHOUT A BODY, everything the
spec leaves to the platform or to a draw (R6; 93_implementation_defined.md U3 to U9): the registry, the transport oracle,
the timeout, the values of registers that hold no value. Nothing can be proved of a constant without a body but what its
type says, so a theorem about the machine holds for every choice of them. -/

namespace Sys2Proof

/-- What the transport can answer to an exact write of eight bytes (20_memory.md R60, R67): it took all of them; it failed
after `sent` of them reached the line (the draw `k` of R60, 0 to 8); or it gives no answer, with `sent` of them on the line,
until a timeout or `rst` ends the wait (70_reset_and_hazards.md R230). -/
inductive WriteAnswer where
  | ok
  | fail (sent : Fin 9)
  | silent (sent : Fin 9)
deriving DecidableEq, Repr, Inhabited

/-- What the transport can answer to an exact read of eight bytes (20_memory.md R61, R67): eight bytes, any values; a
failure after `consumed` bytes (the draw of R61, 0 to 7) were taken from the stream and lost; or no answer, with `consumed`
bytes taken, until a timeout or `rst` ends the wait. -/
inductive ReadAnswer where
  | ok (bs : Frame)
  | fail (consumed : Fin 8)
  | silent (consumed : Fin 8)
deriving DecidableEq, Repr, Inhabited

/-- One answer of the transport, as its history records it (20_memory.md R66). -/
inductive Answer where
  | write (a : WriteAnswer)
  | read (a : ReadAnswer)
deriving DecidableEq, Repr, Inhabited

namespace Config

/-- `SYNC` (00_scope.md R5): byte 0 of every request frame. -/
def sync : Byte := 0xAA#8

/-- `CRC_POLY` (00_scope.md R5, applied MSB-first by 40_crc.md R111). -/
def crcPoly : Crc := 0x1021#16

/-- `CRC_INIT` (00_scope.md R5; 40_crc.md R113). -/
def crcInit : Crc := 0x0000#16

/-- `ACK_OFFSET` (00_scope.md R5): 127, added by the board to a request opcode. -/
def ackOffset : Byte := 127#8

/-- `OPCODE_MAX` (00_scope.md R5): registry codes lie in 0 to 36. -/
def opcodeMax : Nat := 36

/-- `HEARTBEAT` (00_scope.md R5; 30_encoding.md R95). -/
def heartbeat : Byte := 0#8

/-- `TEC_TEMPERATURE` (00_scope.md R5; 30_encoding.md R95). -/
def tecTemperature : Byte := 1#8

/-- The part of the parameter `REGISTRY` no source gives (00_scope.md R6; U8): bit `c` says whether code `c`, 0 to 36, is
held. Codes 0 and 1 are held whatever this says (`Machine.registryHolds`). -/
opaque registryMask : BitVec 37

/-- The parameter `XPORT_TIMEOUT` (00_scope.md R6; U9): whether the platform bounds a blocked transfer. -/
opaque xportTimeout : Bool

/-- The transport oracle's answer to an exact write, given the bytes sent so far and every earlier answer
(20_memory.md R66; U7). -/
opaque writeOracle : List Byte → List Answer → WriteAnswer

/-- The transport oracle's answer to an exact read, given the bytes sent so far and every earlier answer
(20_memory.md R66; U7, U11, U13). -/
opaque readOracle : List Byte → List Answer → ReadAnswer

/-- What `TXF` holds while the spec says it holds no value (10_state.md R36; U3): a draw. -/
opaque noTxf : Nat → Frame

/-- What `REQ_OP` holds while the spec says it holds no value (10_state.md R36; U3): a draw. -/
opaque noReqOp : Nat → Byte

/-- What `RXF` holds while the spec says it holds no value, after reset and after a failed read (10_state.md R36;
U3, U5): a draw. -/
opaque noRxf : Nat → Frame

/-- What `RSP_OP` holds while the spec says it holds no value (10_state.md R36; U3): a draw. -/
opaque noRspOp : Nat → Byte

/-- What `RSP_OPD` holds while the spec says it holds no value (10_state.md R36; U3): a draw. -/
opaque noRspOpd : Nat → Operand

/-- What `RSP_CRC` holds while the spec says it holds no value (10_state.md R36; U3): a draw. -/
opaque noRspCrc : Nat → Crc

/-- What `ACK_OP` holds while the spec says it holds no value (10_state.md R36; U3): a draw. -/
opaque noAckOp : Nat → Byte

end Config

end Sys2Proof
end

