-- ==== Sys2Proof/Machine/Crc.lean ====
section
/-! DEFINITION. CRCG's algorithm: `crc_round`, `crc_byte`, `crc16` (40_crc.md R110 to R113, R117, R118). -/

namespace Sys2Proof.Machine

/-- `crc_round` (40_crc.md R111): shift left by one, bit 15 discarded; XOR the polynomial if bit 15 was 1 before the
shift. -/
def crcRound (a : Crc) : Crc :=
  if a.msb then (a <<< 1) ^^^ Config.crcPoly else a <<< 1

/-- `n` rounds, one after another (`crc_round^n` of 40_crc.md R112). -/
def crcRounds : Nat → Crc → Crc
  | 0, a => a
  | n + 1, a => crcRounds n (crcRound a)

/-- `crc_byte` (40_crc.md R112): the byte, widened to 16 bits before it is shifted (R118), is XOR-ed into bits 15:8;
then eight rounds. -/
def crcByte (a : Crc) (b : Byte) : Crc :=
  crcRounds 8 (a ^^^ (b.setWidth 16 <<< 8))

/-- `crc16` (40_crc.md R113): the left fold of `crc_byte` from the initial value, lowest offset first. -/
def crc16 (bs : List Byte) : Crc :=
  bs.foldl crcByte Config.crcInit

end Sys2Proof.Machine
end

