-- ==== Sys2Proof/Syntax.lean ====
section
/-! DEFINITION. The instructions: one constructor per row of spec/opcode_table.json, the nine commands of 30_encoding.md
R89 and the six wire frame rows of R80 to R82 and R95; and what is presented to the block, before it is decoded. -/

namespace Sys2Proof

/-- One constructor per row of the opcode table. The frame rows carry the frame's fields as values, in the reading their
format gives them: the operand of a request row is big-endian on the wire (R83), that of a response row little-endian
(R84), the CRC field little-endian in both (R85). -/
inductive Instr where
  /-- `NOP` (40_crc.md R114). -/
  | nop
  /-- `CRC.CLR` (40_crc.md R115). -/
  | crcClr
  /-- `CRC.BYTE b` (40_crc.md R116). -/
  | crcByte (b : Byte)
  /-- `ENC.REQ op, opd` (41_frame_encode.md R131). -/
  | encReq (op : Byte) (opd : Operand)
  /-- `TX.SEND` (41_frame_encode.md R133). -/
  | txSend
  /-- `RX.LOAD` (42_frame_decode.md R141). -/
  | rxLoad
  /-- `DEC.RSP` (42_frame_decode.md R144). -/
  | decRsp
  /-- `VAL.RSP` (43_validate_and_cycle.md R152). -/
  | valRsp
  /-- `SUBMIT op, opd` (43_validate_and_cycle.md R156). -/
  | submit (op : Byte) (opd : Operand)
  /-- Row REQ: a request frame (30_encoding.md R81), sync 0xAA, of an opcode that has no row of its own. -/
  | req (op : Byte) (opd : Operand) (crc : Crc)
  /-- Row RSP: a response frame (30_encoding.md R82) whose opcode byte has no row of its own. -/
  | rsp (sync rop : Byte) (opd : Operand) (crc : Crc)
  /-- Row REQ.HEARTBEAT: the request frame of opcode 0 (30_encoding.md R95). -/
  | reqHeartbeat (opd : Operand) (crc : Crc)
  /-- Row RSP.HEARTBEAT: the response frame with opcode byte 0x7F (30_encoding.md R95). -/
  | rspHeartbeat (sync : Byte) (opd : Operand) (crc : Crc)
  /-- Row REQ.TEC_TEMPERATURE: the request frame of opcode 1 (30_encoding.md R95). -/
  | reqTecTemperature (opd : Operand) (crc : Crc)
  /-- Row RSP.TEC_TEMPERATURE: the response frame with opcode byte 0x80 (30_encoding.md R95). -/
  | rspTecTemperature (sync : Byte) (opd : Operand) (crc : Crc)
deriving DecidableEq, Repr

/-- The direction of travel, which alone tells format REQ from format RSP (30_encoding.md R96). -/
inductive Direction where
  | request
  | response
deriving DecidableEq, Repr

/-- What is presented at the block's boundary, undecoded. -/
inductive Presented where
  /-- The host presents a command: port `cmd[3:0]` and the operand ports `din[7:0]`, `op_in[7:0]`, `opd_in[31:0]`
  (10_state.md R37; 30_encoding.md R87, R88). -/
  | command (cmd : BitVec 4) (din opIn : Byte) (opdIn : Operand)
  /-- A frame as a 64-bit pattern, `F[0]` in bits 63:56 (00_scope.md R13), travelling in a direction. -/
  | frame (dir : Direction) (pattern : BitVec 64)
deriving DecidableEq, Repr

/-- Why the decoder takes nothing from what is presented. -/
inductive DecodeError where
  /-- Command codes 1001 to 1111 are reserved (30_encoding.md R90; U2). -/
  | reservedCode (cmd : BitVec 4)
  /-- A request-direction pattern whose first byte is not 0xAA is no frame of format REQ (30_encoding.md R81). -/
  | requestSync (sync : Byte)
deriving DecidableEq, Repr

end Sys2Proof
end

