-- ==== Sys2Proof/Machine/Operands.lean ====
section
/-! DEFINITION. Operand forms: the fields of a frame and their byte orders (20_memory.md R51, R52, R54, R55; 30_encoding.md
R81 to R86), `bswap32` (00_scope.md R12), the 64-bit pattern of a frame (R13), and the two pure functions over frames,
`encode_request` (41_frame_encode.md R130) and `decode_response` (42_frame_decode.md R140). -/

namespace Sys2Proof.Machine

/-- `bswap32` (00_scope.md R12): the same four bytes in the opposite order. -/
def bswap32 (v : Operand) : Operand :=
  v.extractLsb' 0 8 ++ v.extractLsb' 8 8 ++ v.extractLsb' 16 8 ++ v.extractLsb' 24 8

/-- All eight bytes of a frame, offset 0 first (20_memory.md R56). -/
def frameBytes (F : Frame) : List Byte :=
  [F.f0, F.f1, F.f2, F.f3, F.f4, F.f5, F.f6, F.f7]

/-- The six bytes the CRC covers, `F[0]` to `F[5]` (30_encoding.md R85; `CRC_COVER` of 00_scope.md R5). -/
def coveredBytes (F : Frame) : List Byte :=
  [F.f0, F.f1, F.f2, F.f3, F.f4, F.f5]

/-- The CRC of a frame: `crc16(F[0..6))` (40_crc.md R113). -/
def frameCrc (F : Frame) : Crc :=
  crc16 (coveredBytes F)

/-- The CRC field of a frame, either direction: `{F[7], F[6]}` (20_memory.md R55; 30_encoding.md R85). -/
def crcField (F : Frame) : Crc :=
  F.f7 ++ F.f6

/-- The operand of a request frame: big-endian, most significant byte at offset 2 (20_memory.md R54; 30_encoding.md
R83). -/
def requestOperand (F : Frame) : Operand :=
  F.f2 ++ F.f3 ++ F.f4 ++ F.f5

/-- The operand of a response frame: little-endian, `{F[5], F[4], F[3], F[2]}` (20_memory.md R54; 30_encoding.md
R84). -/
def responseOperand (F : Frame) : Operand :=
  F.f5 ++ F.f4 ++ F.f3 ++ F.f2

/-- Format REQ from its fields (30_encoding.md R81, R83, R85). -/
def requestFrame (sync op : Byte) (opd : Operand) (crc : Crc) : Frame :=
  { f0 := sync, f1 := op,
    f2 := opd.extractLsb' 24 8, f3 := opd.extractLsb' 16 8, f4 := opd.extractLsb' 8 8, f5 := opd.extractLsb' 0 8,
    f6 := crc.extractLsb' 0 8, f7 := crc.extractLsb' 8 8 }

/-- Format RSP from its fields (30_encoding.md R82, R84, R85). -/
def responseFrame (sync rop : Byte) (opd : Operand) (crc : Crc) : Frame :=
  { f0 := sync, f1 := rop,
    f2 := opd.extractLsb' 0 8, f3 := opd.extractLsb' 8 8, f4 := opd.extractLsb' 16 8, f5 := opd.extractLsb' 24 8,
    f6 := crc.extractLsb' 0 8, f7 := crc.extractLsb' 8 8 }

/-- The CRC of the request frame for an opcode and an operand (the `c` of 41_frame_encode.md R130). -/
def requestCrc (op : Byte) (opd : Operand) : Crc :=
  frameCrc (requestFrame Config.sync op opd 0)

/-- `encode_request(op, opd)` (41_frame_encode.md R130): total; no check and no offset on the opcode (30_encoding.md
R86, R93). -/
def encodeRequest (op : Byte) (opd : Operand) : Frame :=
  requestFrame Config.sync op opd (requestCrc op opd)

/-- `decode_response(F)` (42_frame_decode.md R140): the opcode byte with the offset still in it and the operand, or
nothing, which is ChecksumMismatch. The sync byte is not looked at but enters the CRC (R142; 30_encoding.md R91). -/
def decodeResponse (F : Frame) : Option (Byte × Operand) :=
  if frameCrc F = crcField F then some (F.f1, responseOperand F) else none

/-- A frame as a 64-bit pattern, `F[0]` in bits 63:56 (00_scope.md R13). -/
def frameToPattern (F : Frame) : BitVec 64 :=
  F.f0 ++ F.f1 ++ F.f2 ++ F.f3 ++ F.f4 ++ F.f5 ++ F.f6 ++ F.f7

/-- The frame of a 64-bit pattern (00_scope.md R13). -/
def patternToFrame (p : BitVec 64) : Frame :=
  { f0 := p.extractLsb' 56 8, f1 := p.extractLsb' 48 8, f2 := p.extractLsb' 40 8, f3 := p.extractLsb' 32 8,
    f4 := p.extractLsb' 24 8, f5 := p.extractLsb' 16 8, f6 := p.extractLsb' 8 8, f7 := p.extractLsb' 0 8 }

end Sys2Proof.Machine
end

