-- ==== Sys2Proof/WellFormed.lean ====
section
/-! DEFINITION. Which instructions are well formed. A command always is: its operands fill their ports exactly
(30_encoding.md R87, R88, R94). A frame of a generic row has an opcode byte that no named row fixes (R95), and a request
frame carries the CRC of its own six bytes (R81: "the encoder produces no other"). A response frame's CRC is NOT a
condition: every pattern is a response frame, and a wrong CRC is the decoder's ChecksumMismatch (42_frame_decode.md R140). -/

namespace Sys2Proof

/-- The response opcode byte of a request opcode: the opcode plus 127 (30_encoding.md R86). -/
def responseByte (op : Byte) : Byte := op + Config.ackOffset

/-- A request opcode that no named row of the table fixes. -/
def requestUnnamed (op : Byte) : Bool :=
  op != Config.heartbeat && op != Config.tecTemperature

/-- A response opcode byte that no named row of the table fixes. -/
def responseUnnamed (rop : Byte) : Bool :=
  rop != responseByte Config.heartbeat && rop != responseByte Config.tecTemperature

/-- A request frame's CRC field is the CRC of its six bytes (30_encoding.md R81). -/
def requestCrcRight (op : Byte) (opd : Operand) (crc : Crc) : Bool :=
  crc == Machine.requestCrc op opd

/-- The checks of each row. -/
def Instr.wellFormed : Instr → Bool
  | .nop => true
  | .crcClr => true
  | .crcByte _ => true
  | .encReq _ _ => true
  | .txSend => true
  | .rxLoad => true
  | .decRsp => true
  | .valRsp => true
  | .submit _ _ => true
  | .req op opd crc => requestUnnamed op && requestCrcRight op opd crc
  | .rsp _ rop _ _ => responseUnnamed rop
  | .reqHeartbeat opd crc => requestCrcRight Config.heartbeat opd crc
  | .rspHeartbeat _ _ _ => true
  | .reqTecTemperature opd crc => requestCrcRight Config.tecTemperature opd crc
  | .rspTecTemperature _ _ _ => true

end Sys2Proof
end

