-- ==== Sys2Proof/Decode.lean ====
section
/-! DEFINITION. The decoder, total on everything that can be presented, and the encoder, from the same tables: the command
codes of 30_encoding.md R89, the operand ports of R88, the frame formats of R81 and R82 and the named rows of R95. -/

namespace Sys2Proof

/-- A command from its ports: the code is the whole encoding (30_encoding.md R87, R89), a port the command does not read
is ignored (R88), codes 1001 to 1111 are reserved (R90). -/
def decodeCommand (cmd : BitVec 4) (din opIn : Byte) (opdIn : Operand) : Except DecodeError Instr :=
  match cmd.toNat with
  | 0 => .ok .nop
  | 1 => .ok .crcClr
  | 2 => .ok (.crcByte din)
  | 3 => .ok (.encReq opIn opdIn)
  | 4 => .ok .txSend
  | 5 => .ok .rxLoad
  | 6 => .ok .decRsp
  | 7 => .ok .valRsp
  | 8 => .ok (.submit opIn opdIn)
  | _ => .error (.reservedCode cmd)

/-- A frame travelling to the board (30_encoding.md R81, R95). -/
def decodeRequestFrame (F : Frame) : Except DecodeError Instr :=
  if F.f0 = Config.sync then
    if F.f1 = Config.heartbeat then
      .ok (.reqHeartbeat (Machine.requestOperand F) (Machine.crcField F))
    else if F.f1 = Config.tecTemperature then
      .ok (.reqTecTemperature (Machine.requestOperand F) (Machine.crcField F))
    else .ok (.req F.f1 (Machine.requestOperand F) (Machine.crcField F))
  else .error (.requestSync F.f0)

/-- A frame travelling from the board: every pattern is one (30_encoding.md R82, R91, R92, R95). -/
def decodeResponseFrame (F : Frame) : Instr :=
  if F.f1 = responseByte Config.heartbeat then
    .rspHeartbeat F.f0 (Machine.responseOperand F) (Machine.crcField F)
  else if F.f1 = responseByte Config.tecTemperature then
    .rspTecTemperature F.f0 (Machine.responseOperand F) (Machine.crcField F)
  else .rsp F.f0 F.f1 (Machine.responseOperand F) (Machine.crcField F)

/-- The decoder. -/
def decode : Presented → Except DecodeError Instr
  | .command cmd din opIn opdIn => decodeCommand cmd din opIn opdIn
  | .frame .request p => decodeRequestFrame (Machine.patternToFrame p)
  | .frame .response p => .ok (decodeResponseFrame (Machine.patternToFrame p))

/-- A request frame as it is presented. -/
def encodeRequestRow (op : Byte) (opd : Operand) (crc : Crc) : Presented :=
  .frame .request (Machine.frameToPattern (Machine.requestFrame Config.sync op opd crc))

/-- A response frame as it is presented. -/
def encodeResponseRow (sync rop : Byte) (opd : Operand) (crc : Crc) : Presented :=
  .frame .response (Machine.frameToPattern (Machine.responseFrame sync rop opd crc))

/-- The encoder: a port the command does not read carries zeros. -/
def encode : Instr → Presented
  | .nop => .command 0 0 0 0
  | .crcClr => .command 1 0 0 0
  | .crcByte b => .command 2 b 0 0
  | .encReq op opd => .command 3 0 op opd
  | .txSend => .command 4 0 0 0
  | .rxLoad => .command 5 0 0 0
  | .decRsp => .command 6 0 0 0
  | .valRsp => .command 7 0 0 0
  | .submit op opd => .command 8 0 op opd
  | .req op opd crc => encodeRequestRow op opd crc
  | .rsp sync rop opd crc => encodeResponseRow sync rop opd crc
  | .reqHeartbeat opd crc => encodeRequestRow Config.heartbeat opd crc
  | .rspHeartbeat sync opd crc => encodeResponseRow sync (responseByte Config.heartbeat) opd crc
  | .reqTecTemperature opd crc => encodeRequestRow Config.tecTemperature opd crc
  | .rspTecTemperature sync opd crc => encodeResponseRow sync (responseByte Config.tecTemperature) opd crc

/-- The direction of a 64-bit table word, which carries none (30_encoding.md R96): a word of a named response row, or one
whose first byte is not 0xAA, is taken as a response, every other word as a request. DESIGN CHOICE (log entry 9); only
`tablePresented` uses it. -/
def tableWordDirection (p : BitVec 64) : Direction :=
  let F := Machine.patternToFrame p
  if F.f0 = Config.sync && responseUnnamed F.f1 then .request else .response

/-- A word of the opcode table as it is presented. A row of at most 8 bits is a command: its code is bits 3:0 of the word
(the port has four wires) and its operand ports, to which the table gives no bits, are 0. A row of 64 bits is a frame. -/
def tablePresented (nbits w : Nat) : Option Presented :=
  if nbits = 64 then some (.frame (tableWordDirection (BitVec.ofNat 64 w)) (BitVec.ofNat 64 w))
  else if nbits ≤ 8 then some (.command (BitVec.ofNat 4 w) 0 0 0)
  else none

/-- The instruction the decoder reads from a word of the opcode table. -/
def decodeTableWord (nbits w : Nat) : Option Instr :=
  match tablePresented nbits w with
  | none => none
  | some p =>
    match decode p with
    | .ok i => some i
    | .error _ => none

end Sys2Proof
end

