-- ==== Sys2Proof/Machine/State.lean ====
section
/-! DEFINITION. The state: the fifteen items of 10_state.md R20, the transport as far as it is observable (R35;
20_memory.md R50, R66), what is presented to the block next, and the model's own counter of draws; the reasons a step can
stop; the state after reset (70_reset_and_hazards.md R231). -/

namespace Sys2Proof.Machine

/-- The fault field `FAULT` (10_state.md R31; 60_exceptions.md R200). Codes 5 to 7 are never produced (U15). -/
inductive FaultCode where
  | none
  | transportError
  | checksumMismatch
  | unknownOpcode
  | ackMismatch
deriving DecidableEq, Repr

/-- `XDIR`, the direction of a transport fault (10_state.md R20, R31). -/
inductive XDir where
  | write
  | read
deriving DecidableEq, Repr

/-- The transport as far as the FCU can observe it (10_state.md R35; 20_memory.md R50, R66). -/
structure Transport where
  /-- `TXS`: every byte handed to the transport, oldest first; append-only (R35, R50). -/
  txs : List Byte
  /-- Answers to the next writes that are already fixed, next first: a script (45_host_contract.md R190). When it is empty
  the oracle answers. -/
  writeScript : List WriteAnswer
  /-- Answers to the next reads that are already fixed, next first. When it is empty the oracle answers. -/
  readScript : List ReadAnswer
  /-- Every earlier answer, oldest first: what the oracle may see beside `txs` (20_memory.md R66). -/
  answers : List Answer
deriving DecidableEq, Repr

/-- What the outside does to the block at one step. -/
inductive Input where
  /-- Input `rst` is asserted and released (70_reset_and_hazards.md R230). -/
  | rst
  /-- A command or a frame is presented. -/
  | present (p : Presented)
deriving DecidableEq, Repr

/-- The machine's state. The first fifteen fields are the table of 10_state.md R20, in its order. -/
structure State where
  /-- `CRC`: the accumulator (R21). -/
  crc : Crc
  /-- `TXF[0..7]`: the request frame to send (R22). -/
  txf : Frame
  /-- `TXV`: `TXF` holds an encoded frame not yet sent. -/
  txv : Bool
  /-- `REQ_OP`: opcode of the request in `TXF` or outstanding (R24). -/
  reqOp : Byte
  /-- `REQ_PEND`: a request was sent and its response is not yet validated (R24). -/
  reqPend : Bool
  /-- `RXF[0..7]`: the last response frame read (R23). -/
  rxf : Frame
  /-- `RXV`: `RXF` holds eight bytes read since the last send. -/
  rxv : Bool
  /-- `RSP_OP`: opcode byte of the decoded response, offset still included (R25). -/
  rspOp : Byte
  /-- `RSP_OPD`: operand of the decoded response (R25). -/
  rspOpd : Operand
  /-- `RSP_CRC`: CRC as transmitted in the decoded response (R25). -/
  rspCrc : Crc
  /-- `DECV`: the frame in `RXF` was decoded and its CRC matched. -/
  decv : Bool
  /-- `ACK_OP`: response opcode with the acknowledgement offset removed (R26). -/
  ackOp : Byte
  /-- `RSPV`: the response passed validation. -/
  rspv : Bool
  /-- `FAULT`: sticky fault code (R30). -/
  fault : FaultCode
  /-- `XDIR`: direction of a transport fault. -/
  xdir : XDir
  /-- The transport (R35). -/
  link : Transport
  /-- What the outside does next, oldest first: the order of execution is the order of presentation (R27). -/
  inputs : List Input
  /-- The MODEL's own: how many times a register has been left without a value (R36); it makes each draw a fresh one. -/
  draws : Nat
deriving DecidableEq, Repr

/-- Reasons a step stops with no next state. The block's own faults are not here: they are entered (60_exceptions.md R209)
and the step has a next state. -/
inductive Fault where
  /-- Raised by `TX.SEND`, `RX.LOAD` and `SUBMIT` when the transport gives no answer and no timeout ends the wait: none is
  configured (20_memory.md R67; U6, `stuck`), or `rst` comes first (70_reset_and_hazards.md R230), and the step then ends in
  the reset state. The command neither finishes nor faults. `link` is the transport as the command left it, which `rst` keeps
  (R232). Safe: the model goes nowhere from here but by `rst`, as the spec says. -/
  | transportBlocked (dir : XDir) (link : Transport)
deriving DecidableEq, Repr

/-- Steps the spec gives no meaning (00_scope.md R8; 60_exceptions.md R215). -/
inductive Refusal where
  /-- Raised by an arm of `exec` for an instruction that has no meaning yet; no arm does. Safe. -/
  | notModelled (mnemonic : String)
  /-- Raised by every command but `NOP` whose precondition fails (70_reset_and_hazards.md R236; U1). Safe: the spec says to
  refuse. -/
  | preconditionFails
  /-- Raised by a request frame row whose CRC field is not the CRC of its six bytes (30_encoding.md R81): the encoder
  produces no such frame. Safe. -/
  | notEncoded (crc : Crc)
  /-- Raised by the decoder on a reserved command code (30_encoding.md R90; U2). Safe: the spec says to refuse. -/
  | reservedCode (cmd : BitVec 4)
  /-- Raised by the decoder on a request-direction pattern whose first byte is not 0xAA (30_encoding.md R81). Safe. -/
  | notARequestFrame (sync : Byte)
deriving DecidableEq, Repr

/-- The outcome of a step (00_scope.md R8). A fault of the block is a next state with `FAULT` set. -/
abbrev Out := Host.Outcome State Fault Refusal

/-- The machine right after reset (70_reset_and_hazards.md R231): the accumulator, the flags, `FAULT` and `XDIR` at 0; every
buffer and data register without a value, which is a draw (10_state.md R36; U3); the transport at its start, nothing
presented. -/
def State.reset : State :=
  { crc := 0, txf := Config.noTxf 0, txv := false, reqOp := Config.noReqOp 0, reqPend := false,
    rxf := Config.noRxf 0, rxv := false, rspOp := Config.noRspOp 0, rspOpd := Config.noRspOpd 0,
    rspCrc := Config.noRspCrc 0, decv := false, ackOp := Config.noAckOp 0, rspv := false,
    fault := .none, xdir := .write,
    link := { txs := [], writeScript := [], readScript := [], answers := [] },
    inputs := [], draws := 1 }

end Sys2Proof.Machine
end

