-- ==== Sys2Proof/Machine/Flags.lean ====
section
/-! DEFINITION. The flags: the status word (10_state.md R31), the fault output (60_exceptions.md R207) and the preconditions
of the commands (70_reset_and_hazards.md R236). -/

namespace Sys2Proof.Machine

/-- A flag as one bit. -/
def flagBit (b : Bool) : BitVec 1 := BitVec.ofBool b

/-- The numeric code of `FAULT` (60_exceptions.md R200). -/
def faultNumber : FaultCode → BitVec 3
  | .none => 0
  | .transportError => 1
  | .checksumMismatch => 2
  | .unknownOpcode => 3
  | .ackMismatch => 4

/-- `XDIR` as one bit: 0 write, 1 read (10_state.md R31). -/
def xdirBit : XDir → BitVec 1
  | .write => 0
  | .read => 1

/-- `STATUS`, a view of the flags: `FAULT` 8:6, `XDIR` 5, `RSPV` 4, `DECV` 3, `RXV` 2, `REQ_PEND` 1, `TXV` 0
(10_state.md R31). -/
def statusWord (s : State) : BitVec 9 :=
  faultNumber s.fault ++ xdirBit s.xdir ++ flagBit s.rspv ++ flagBit s.decv ++ flagBit s.rxv ++ flagBit s.reqPend ++
    flagBit s.txv

/-- `FAULT != 0`: the block is halted (60_exceptions.md R209). -/
def isHalted (s : State) : Bool := s.fault != .none

/-- R236, row `NOP`. -/
def preNop (_ : State) : Bool := true

/-- R236, row `CRC.CLR`. -/
def preCrcClr (s : State) : Bool := !isHalted s

/-- R236, row `CRC.BYTE`. -/
def preCrcByte (s : State) : Bool := !isHalted s

/-- R236, row `ENC.REQ`. -/
def preEncReq (s : State) : Bool := !isHalted s && !s.reqPend

/-- R236, row `TX.SEND`. -/
def preTxSend (s : State) : Bool := !isHalted s && s.txv && !s.reqPend

/-- R236, row `RX.LOAD`. -/
def preRxLoad (s : State) : Bool := !isHalted s && s.reqPend && !s.rxv

/-- R236, row `DEC.RSP`. -/
def preDecRsp (s : State) : Bool := !isHalted s && s.rxv

/-- R236, row `VAL.RSP`. -/
def preValRsp (s : State) : Bool := !isHalted s && s.decv && s.reqPend

/-- R236, row `SUBMIT`. -/
def preSubmit (s : State) : Bool := !isHalted s && !s.reqPend

/-- A command whose precondition fails is refused: no next state, no fault code, not a `NOP` (60_exceptions.md R215; U1). -/
def guarded (met : Bool) (o : Out) : Out :=
  if met then o else .refused .preconditionFails

end Sys2Proof.Machine
end

