-- ==== Sys2Proof/Machine/Ops.lean ====
section
/-! DEFINITION. The shared operations: entering a fault and reset (the only way back), the two transport primitives, the
registry test, and the register updates the commands are made of. -/

namespace Sys2Proof.Machine

/-- `raise` (60_exceptions.md R209): `FAULT` takes the code; nothing is saved elsewhere, no control is transferred. The
writes listed before it have happened. -/
def raiseFault (c : FaultCode) (s : State) : State :=
  { s with fault := c }

/-- Reset (70_reset_and_hazards.md R230 to R232), the only way out of a fault (60_exceptions.md R211): the state of R231, with
the transport and its history left as they are. Registers left without a value take a fresh draw (10_state.md R36). -/
def resetBlock (s : State) : State :=
  { s with
    crc := 0, txf := Config.noTxf s.draws, txv := false, reqOp := Config.noReqOp s.draws, reqPend := false,
    rxf := Config.noRxf s.draws, rxv := false, rspOp := Config.noRspOp s.draws, rspOpd := Config.noRspOpd s.draws,
    rspCrc := Config.noRspCrc s.draws, decv := false, ackOp := Config.noAckOp s.draws, rspv := false,
    fault := .none, xdir := .write, draws := s.draws + 1 }

/-- Is a code held by a registry whose open part is `mask`? A registry is a set of codes within 0 to 36 that holds 0 and 1
(00_scope.md R6). -/
def registryHolds (mask : BitVec 37) (code : Byte) : Bool :=
  code == Config.heartbeat || code == Config.tecTemperature || mask.getLsbD code.toNat

/-- `code in REGISTRY` (43_validate_and_cycle.md R151, R152), for the registry of this machine. -/
def registered (code : Byte) : Bool :=
  registryHolds Config.registryMask code

/-- The transport's answer to the next exact write: the script's, or the oracle's (20_memory.md R66). -/
def nextWriteAnswer (t : Transport) : WriteAnswer :=
  match t.writeScript with
  | a :: _ => a
  | [] => Config.writeOracle t.txs t.answers

/-- The transport's answer to the next exact read: the script's, or the oracle's (20_memory.md R66). -/
def nextReadAnswer (t : Transport) : ReadAnswer :=
  match t.readScript with
  | a :: _ => a
  | [] => Config.readOracle t.txs t.answers

/-- Does a transfer that gets no answer end by the platform's timeout? Where one is configured (20_memory.md R67; U9), unless
`rst` comes first and abandons the command (70_reset_and_hazards.md R230; log entry 11). -/
def timesOut (s : State) : Bool :=
  Config.xportTimeout && s.inputs.head? != some .rst

/-- How many bytes of an eight-byte write reach the line (20_memory.md R60; U4). -/
def bytesSent : WriteAnswer → Nat
  | .ok => 8
  | .fail k => k
  | .silent k => k

/-- `XportWrite`, its effect on the transport (20_memory.md R60): the bytes that reach the line are appended to `TXS` in
offset order. -/
def afterWrite (t : Transport) (bs : List Byte) : Transport :=
  { t with
    txs := t.txs ++ bs.take (bytesSent (nextWriteAnswer t)),
    writeScript := t.writeScript.tail,
    answers := t.answers ++ [.write (nextWriteAnswer t)] }

/-- `XportRead(8)`, its effect on the transport (20_memory.md R61): the answer is used up. -/
def afterRead (t : Transport) : Transport :=
  { t with
    readScript := t.readScript.tail,
    answers := t.answers ++ [.read (nextReadAnswer t)] }

/-- The next read that no answer is fixed for yet will return this frame (20_memory.md R58, R66). -/
def deliverFrame (F : Frame) (t : Transport) : Transport :=
  { t with readScript := t.readScript ++ [.ok F] }

/-- The register writes of `ENC.REQ` (41_frame_encode.md R131). -/
def latchRequest (op : Byte) (opd : Operand) (s : State) : State :=
  { s with
    txf := encodeRequest op opd, reqOp := op, crc := crcField (encodeRequest op opd), txv := true }

/-- The register writes of `TX.SEND` on `ok` (41_frame_encode.md R133). -/
def markSent (s : State) : State :=
  { s with
    link := afterWrite s.link (frameBytes s.txf), txv := false, reqPend := true, rxv := false, decv := false,
    rspv := false }

/-- `TX.SEND` on `fail` (41_frame_encode.md R133; 60_exceptions.md R201). -/
def failWrite (s : State) : State :=
  raiseFault .transportError { s with link := afterWrite s.link (frameBytes s.txf), xdir := .write }

/-- `TX.SEND` (41_frame_encode.md R133), its precondition met. No answer is a failure where a timeout ends the wait and no
outcome where none does (20_memory.md R67). -/
def sendRequest (s : State) : Out :=
  match nextWriteAnswer s.link with
  | .ok => .next (markSent s)
  | .fail _ => .next (failWrite s)
  | .silent _ =>
    if timesOut s then .next (failWrite s)
    else .fault (.transportBlocked .write (afterWrite s.link (frameBytes s.txf)))

/-- The register writes of `RX.LOAD` on `ok(bs)` (42_frame_decode.md R141). -/
def storeResponse (F : Frame) (s : State) : State :=
  { s with link := afterRead s.link, rxf := F, rxv := true }

/-- `RX.LOAD` on `fail` (42_frame_decode.md R141; 60_exceptions.md R201): `RXF` holds no value afterwards (a draw). -/
def failRead (s : State) : State :=
  raiseFault .transportError
    { s with link := afterRead s.link, rxf := Config.noRxf s.draws, draws := s.draws + 1, xdir := .read }

/-- `RX.LOAD` (42_frame_decode.md R141), its precondition met. -/
def loadResponse (s : State) : Out :=
  match nextReadAnswer s.link with
  | .ok F => .next (storeResponse F s)
  | .fail _ => .next (failRead s)
  | .silent _ =>
    if timesOut s then .next (failRead s)
    else .fault (.transportBlocked .read (afterRead s.link))

/-- The four register writes of `DEC.RSP`, made before the comparison (42_frame_decode.md R144; 10_state.md R25). -/
def latchResponse (s : State) : State :=
  { s with
    rspOp := s.rxf.f1, rspOpd := responseOperand s.rxf, rspCrc := crcField s.rxf, crc := frameCrc s.rxf }

/-- `DECV <- 1` (42_frame_decode.md R144). -/
def markDecoded (s : State) : State :=
  { s with decv := true }

/-- `DEC.RSP` (42_frame_decode.md R144), its precondition met. -/
def checkResponse (s : State) : State :=
  let d := latchResponse s
  if d.crc ≠ d.rspCrc then raiseFault .checksumMismatch d else markDecoded d

/-- `ACK_OP` as `VAL.RSP` writes it, in every branch: `(RSP_OP - 127) mod 256` (43_validate_and_cycle.md R151, R152). -/
def latchAck (s : State) : State :=
  { s with ackOp := s.rspOp - Config.ackOffset }

/-- `RSPV <- 1; REQ_PEND <- 0` (43_validate_and_cycle.md R152). -/
def acceptResponse (s : State) : State :=
  { s with rspv := true, reqPend := false }

/-- `VAL.RSP` (43_validate_and_cycle.md R152), its precondition met: the registry test, then the comparison with the
outstanding request. -/
def validateResponse (s : State) : State :=
  let v := latchAck s
  if v.rspOp < Config.ackOffset ∨ registered v.ackOp = false then raiseFault .unknownOpcode v
  else if v.ackOp ≠ v.reqOp then raiseFault .ackMismatch v
  else acceptResponse v

/-- "The sequence ending at the first line that raises a fault" (43_validate_and_cycle.md R156). -/
def thenUnlessFault (o : Out) (k : State → Out) : Out :=
  match o with
  | .next s => if isHalted s then .next s else k s
  | .fault f => .fault f
  | .refused r => .refused r

/-- A command in progress that waits on the transport is abandoned by `rst` (70_reset_and_hazards.md R230; 20_memory.md R67),
timeout or not: if the outside's next input is `rst`, the block is reset and the transport keeps what the command did to it
(R232). -/
def abandonIfReset (s : State) (o : Out) : Out :=
  match o with
  | .next t => .next t
  | .fault (.transportBlocked dir l) =>
    match s.inputs with
    | .rst :: rest => .next (resetBlock { s with link := l, inputs := rest })
    | _ => .fault (.transportBlocked dir l)
  | .refused r => .refused r

/-- What a step answers where the decoder takes nothing from what is presented. -/
def refusalOf : DecodeError → Refusal
  | .reservedCode cmd => .reservedCode cmd
  | .requestSync sync => .notARequestFrame sync

end Sys2Proof.Machine
end

