-- ==== Sys2Proof/Machine/EncodeCommands.lean ====
section
/-! DEFINITION. ENC's commands (41_frame_encode.md R131, R133). -/

namespace Sys2Proof.Machine

/-- `ENC.REQ op, opd` (R131). -/
def execEncReq (op : Byte) (opd : Operand) (s : State) : Out :=
  guarded (preEncReq s) (.next (latchRequest op opd s))

/-- `TX.SEND` (R133). -/
def execTxSend (s : State) : Out :=
  guarded (preTxSend s) (sendRequest s)

end Sys2Proof.Machine
end

