-- ==== Sys2Proof/Machine/FrameRows.lean ====
section
/-! DEFINITION. The frame rows of the opcode table (30_encoding.md R80 to R82, R95). A frame is not a command and has no
pseudocode of its own; what it does is what the rules of its row say happens with a frame of its format. A request frame
is what the encoder builds (41_frame_encode.md R130): presented, it is `ENC.REQ` of its fields. A response frame is whatever
the next exact read returns (20_memory.md R58, R66): presented, it becomes the transport's answer to the next read; no
register changes until `RX.LOAD` takes it. DEDUCED (log entry 8). -/

namespace Sys2Proof.Machine

/-- A request frame presented: the encoder builds it, or it is none the encoder builds (30_encoding.md R81). -/
def buildRequestFrame (op : Byte) (opd : Operand) (crc : Crc) (s : State) : Out :=
  if crc = requestCrc op opd then guarded (preEncReq s) (.next (latchRequest op opd s))
  else .refused (.notEncoded crc)

/-- A response frame presented: the transport will supply it. The board may send in any state of the FCU, halted or not
(U11; 70_reset_and_hazards.md R232). -/
def deliverResponseFrame (F : Frame) (s : State) : Out :=
  .next { s with link := deliverFrame F s.link }

/-- Row REQ (R130). -/
def execReq (op : Byte) (opd : Operand) (crc : Crc) (s : State) : Out :=
  buildRequestFrame op opd crc s

/-- Row RSP (R140). -/
def execRsp (sync rop : Byte) (opd : Operand) (crc : Crc) (s : State) : Out :=
  deliverResponseFrame (responseFrame sync rop opd crc) s

/-- Row REQ.HEARTBEAT (R95, R130). -/
def execReqHeartbeat (opd : Operand) (crc : Crc) (s : State) : Out :=
  buildRequestFrame Config.heartbeat opd crc s

/-- Row RSP.HEARTBEAT (R95, R140): opcode byte 0x7F. -/
def execRspHeartbeat (sync : Byte) (opd : Operand) (crc : Crc) (s : State) : Out :=
  deliverResponseFrame (responseFrame sync (Config.heartbeat + Config.ackOffset) opd crc) s

/-- Row REQ.TEC_TEMPERATURE (R95, R130). -/
def execReqTecTemperature (opd : Operand) (crc : Crc) (s : State) : Out :=
  buildRequestFrame Config.tecTemperature opd crc s

/-- Row RSP.TEC_TEMPERATURE (R95, R140): opcode byte 0x80. -/
def execRspTecTemperature (sync : Byte) (opd : Operand) (crc : Crc) (s : State) : Out :=
  deliverResponseFrame (responseFrame sync (Config.tecTemperature + Config.ackOffset) opd crc) s

end Sys2Proof.Machine
end

