-- ==== Sys2Proof/Machine/CrcCommands.lean ====
section
/-! DEFINITION. CRCG's commands (40_crc.md R114 to R116). -/

namespace Sys2Proof.Machine

/-- `NOP` (R114): any state gives itself, also while `FAULT != 0`. -/
def execNop (s : State) : Out :=
  guarded (preNop s) (.next s)

/-- `CRC.CLR` (R115). -/
def execCrcClr (s : State) : Out :=
  guarded (preCrcClr s) (.next { s with crc := Config.crcInit })

/-- `CRC.BYTE b` (R116): continues from whatever the accumulator holds. -/
def execCrcByte (b : Byte) (s : State) : Out :=
  guarded (preCrcByte s) (.next { s with crc := crcByte s.crc b })

end Sys2Proof.Machine
end

