-- ==== Sys2Proof/Machine/DecodeCommands.lean ====
section
/-! DEFINITION. DEC's commands (42_frame_decode.md R141, R144). -/

namespace Sys2Proof.Machine

/-- `RX.LOAD` (R141). -/
def execRxLoad (s : State) : Out :=
  guarded (preRxLoad s) (loadResponse s)

/-- `DEC.RSP` (R144). -/
def execDecRsp (s : State) : Out :=
  guarded (preDecRsp s) (.next (checkResponse s))

end Sys2Proof.Machine
end

