-- ==== Sys2Proof/Machine/ValidateCommands.lean ====
section
/-! DEFINITION. VAL's commands (43_validate_and_cycle.md R152, R156). -/

namespace Sys2Proof.Machine

/-- `VAL.RSP` (R152). -/
def execValRsp (s : State) : Out :=
  guarded (preValRsp s) (.next (validateResponse s))

/-- `SUBMIT op, opd` (R156): each line is the whole effect of the named command. -/
def execSubmit (op : Byte) (opd : Operand) (s : State) : Out :=
  guarded (preSubmit s)
    (thenUnlessFault (thenUnlessFault (thenUnlessFault (thenUnlessFault
      (execEncReq op opd s) execTxSend) execRxLoad) execDecRsp) execValRsp)

end Sys2Proof.Machine
end

