-- ==== Sys2Proof/Machine/Dispatch.lean ====
section
/-! DEFINITION. One arm per constructor of `Instr`. -/

namespace Sys2Proof.Machine

def exec (i : Instr) (s : State) : Host.Outcome State Fault Refusal :=
  match i with
  | .nop => Sys2Proof.Machine.execNop s
  | .crcClr => Sys2Proof.Machine.execCrcClr s
  | .crcByte b => Sys2Proof.Machine.execCrcByte b s
  | .encReq op opd => Sys2Proof.Machine.execEncReq op opd s
  | .txSend => Sys2Proof.Machine.execTxSend s
  | .rxLoad => Sys2Proof.Machine.execRxLoad s
  | .decRsp => Sys2Proof.Machine.execDecRsp s
  | .valRsp => Sys2Proof.Machine.execValRsp s
  | .submit op opd => Sys2Proof.Machine.execSubmit op opd s
  | .req op opd crc => Sys2Proof.Machine.execReq op opd crc s
  | .rsp sync rop opd crc => Sys2Proof.Machine.execRsp sync rop opd crc s
  | .reqHeartbeat opd crc => Sys2Proof.Machine.execReqHeartbeat opd crc s
  | .rspHeartbeat sync opd crc => Sys2Proof.Machine.execRspHeartbeat sync opd crc s
  | .reqTecTemperature opd crc => Sys2Proof.Machine.execReqTecTemperature opd crc s
  | .rspTecTemperature sync opd crc => Sys2Proof.Machine.execRspTecTemperature sync opd crc s

end Sys2Proof.Machine
end

