-- ==== Sys2Proof/Machine/Step.lean ====
section
/-! DEFINITION. One step: the block takes the outside's next input. There is no program counter (10_state.md R27). -/

namespace Sys2Proof.Machine

/-- One step. With nothing presented the block waits, unchanged; `rst` resets it (70_reset_and_hazards.md R230); what is
presented is decoded and executed to its end (00_scope.md R7, R8). -/
def step (s : State) : Host.Outcome State Fault Refusal :=
  match s.inputs with
  | [] => .next s
  | .rst :: rest => .next (resetBlock { s with inputs := rest })
  | .present p :: rest =>
    match decode p with
    | .error e => .refused (refusalOf e)
    | .ok i => abandonIfReset { s with inputs := rest } (exec i { s with inputs := rest })

/-- The state with a word of the opcode table presented next, before whatever else is waiting; unchanged where the table
has no row of that length. -/
def State.withFetchWord (s : State) (nbits w : Nat) : State :=
  match tablePresented nbits w with
  | some p => { s with inputs := .present p :: s.inputs }
  | none => s

end Sys2Proof.Machine
end

