-- ==== Sys2Proof/Machine/Ports.lean ====
section
/-! DEFINITION. The output ports (10_state.md R37): views of the state, read without side effect (20_memory.md R61). A port
whose valid flag is 0 carries any value (R36; 70_reset_and_hazards.md R240; U3): a free function of the state, of which
nothing can be proved. -/

namespace Sys2Proof

/-- What `rsp_op` carries while it is not valid (U3). -/
opaque Config.floatingRspOp : Machine.State → Byte

/-- What `rsp_opd` carries while it is not valid (U3). -/
opaque Config.floatingRspOpd : Machine.State → Operand

/-- What `rsp_crc` carries while it is not valid (U3). -/
opaque Config.floatingRspCrc : Machine.State → Crc

/-- What `ack_op` carries while it is not valid (U3). -/
opaque Config.floatingAckOp : Machine.State → Byte

namespace Machine

/-- The response ports are valid under `DECV`, or after ChecksumMismatch as the rejected frame's fields (R240; U3). -/
def responsePortsValid (s : State) : Bool :=
  s.decv || s.fault == .checksumMismatch

/-- `ack_op` is valid under `RSPV`, or after UnknownOpcode or AckMismatch as the rejected acknowledgement (R240; U3). -/
def ackPortValid (s : State) : Bool :=
  s.rspv || s.fault == .unknownOpcode || s.fault == .ackMismatch

/-- Port `crc_out`. -/
def portCrcOut (s : State) : Crc := s.crc

/-- Port `rsp_op`. -/
def portRspOp (s : State) : Byte :=
  if responsePortsValid s then s.rspOp else Config.floatingRspOp s

/-- Port `rsp_opd`. -/
def portRspOpd (s : State) : Operand :=
  if responsePortsValid s then s.rspOpd else Config.floatingRspOpd s

/-- Port `rsp_crc`. -/
def portRspCrc (s : State) : Crc :=
  if responsePortsValid s then s.rspCrc else Config.floatingRspCrc s

/-- Port `ack_op`. -/
def portAckOp (s : State) : Byte :=
  if ackPortValid s then s.ackOp else Config.floatingAckOp s

/-- Port `status[8:0]` (R31). -/
def portStatus (s : State) : BitVec 9 := statusWord s

/-- Port `fault` (60_exceptions.md R207): 1 exactly when `FAULT != 0`. -/
def portFault (s : State) : BitVec 1 := flagBit (isHalted s)

/-- Port `cmd_ready`: a command is one step (00_scope.md R8), so in every state between steps none is executing. -/
def portCmdReady (_ : State) : BitVec 1 := 1

/-- The result of a cycle, offered while `RSPV = 1` (43_validate_and_cycle.md R153). -/
def cycleResult (s : State) : Option (Byte × Operand) :=
  if s.rspv then some (portAckOp s, portRspOpd s) else none

end Machine

end Sys2Proof
end

