-- ==== Sys2Proof/Machine/Driver.lean ====
section
/-! DEFINITION. The host agent (00_scope.md R7), after 45_host_contract.md: the opcode registry with the operation each code
names, the response interpreter, float packing and the monitor loop, driving the block through `SUBMIT` only. Nothing here is
state or step of the FCU, and no definition of the FCU uses it. Floats are their 32-bit single-precision patterns. -/

namespace Sys2Proof

/-- The P, I and D coefficients are set separately (R171). -/
inductive PidTerm where
  | p
  | i
  | d
deriving DecidableEq, Repr

/-- The board operations: those the source names (R171), and those it does not, each known by its code alone (the list "may
be incomplete", N1). -/
inductive Operation where
  | heartbeat
  | tecTemperature
  | getPid (t : PidTerm)
  | setPid (t : PidTerm)
  | getSetpointOffset
  | setSetpointOffset
  | boardReset
  | getVoltage
  | getCurrent
  | getVoltageAndCurrent
  | getTemperature
  | getHumidity
  | getDewPoint
  | getPowerLevel
  | enableLowPower
  | other (code : Byte)
deriving DecidableEq, Repr

/-- How a code's operand is to be reinterpreted (R170, R172 to R178). -/
inductive OperandTag where
  | voltage
  | current
  | voltageAndCurrent
  | conditions
  | float
  | raw
deriving DecidableEq, Repr

/-- The tag of an operation: "all other opcodes" are raw (R178). -/
def Operation.tag : Operation → OperandTag
  | .heartbeat => .conditions
  | .tecTemperature => .float
  | .getPid _ => .raw
  | .setPid _ => .raw
  | .getSetpointOffset => .raw
  | .setSetpointOffset => .raw
  | .boardReset => .raw
  | .getVoltage => .voltage
  | .getCurrent => .current
  | .getVoltageAndCurrent => .voltageAndCurrent
  | .getTemperature => .float
  | .getHumidity => .float
  | .getDewPoint => .float
  | .getPowerLevel => .raw
  | .enableLowPower => .raw
  | .other _ => .raw

/-- The order in which the codes 2 to 36 are given to operations, which no source gives (N1). -/
opaque Config.codeOrder : Equiv.Perm (Fin 35)

/-- Whether get temperature is the TEC temperature operation itself, which is not stated (R171). -/
opaque Config.temperatureIsTec : Bool

/-- The operands of the commands that carry no float, which no source gives (R183, R184; N3). -/
opaque Config.requestOperand : Operation → Operand

/-- The setpoint offset the host sends, as a float's pattern (R179, R183; N3). -/
opaque Config.setpointOffset : BitVec 32

/-- The P, I and D coefficients the host sends, as floats' patterns (R179, R183; N3). -/
opaque Config.pidCoefficient : PidTerm → BitVec 32

/-- The table of the 18 heartbeat condition names, which is not in the source (R176; N2). -/
opaque Config.conditionName : Fin 18 → String

namespace Machine

/-- `OpCode` (R170): a member of the registry. -/
abbrev OpCode := { c : Byte // registered c = true }

/-- A byte as an opcode, where the registry holds it. -/
def asOpCode (c : Byte) : Option OpCode :=
  if h : registered c = true then some ⟨c, h⟩ else none

/-- The registry's codes, each once: 0, 1, then the others in the order operations take them. -/
def heldCodes : List OpCode :=
  (Config.heartbeat :: Config.tecTemperature ::
    (List.finRange 35).map fun k => BitVec.ofNat 8 (2 + (Config.codeOrder k).val)).filterMap asOpCode

/-- The operations the source names (R171), each once; get temperature is left out where it is TEC temperature. -/
def namedOperations : List Operation :=
  [.heartbeat, .tecTemperature, .getPid .p, .getPid .i, .getPid .d, .setPid .p, .setPid .i, .setPid .d,
    .getSetpointOffset, .setSetpointOffset, .boardReset, .getVoltage, .getCurrent, .getVoltageAndCurrent, .getHumidity,
    .getDewPoint, .getPowerLevel, .enableLowPower] ++
    (if Config.temperatureIsTec then [] else [.getTemperature])

/-- The one operation a registered code names (R170): heartbeat for 0, TEC temperature for 1 (R171), and different operations
for different codes; which, no source says (log entry 13). -/
def operationOf (c : OpCode) : Operation :=
  (namedOperations[heldCodes.idxOf c]?).getD (.other c.val)

/-- The operation under which an operation is registered: its own, or TEC temperature's where get temperature is that one
(R171). -/
def registeredAs (o : Operation) : Operation :=
  if o = .getTemperature ∧ Config.temperatureIsTec = true then .tecTemperature else o

/-- The code of an operation, where the registry has one for it. -/
def operationCode (o : Operation) : Option OpCode :=
  heldCodes.find? fun c => operationOf c = registeredAs o

/-- `num / den` rounded to a whole number, to nearest, ties to even. -/
def roundHalfEven (num den : Nat) : Nat :=
  let q := num / den
  let r := num % den
  if den < 2 * r ∨ (2 * r = den ∧ q % 2 = 1) then q + 1 else q

/-- An unsigned integer converted to single precision (`as f32`, R173), as the integer it becomes: 24 significant bits.
Round to nearest, ties to even: PRESUMED (R173; G2; log entry 12). -/
def singleOfNat (n : Nat) : Nat :=
  let unit := 2 ^ (Nat.log2 n - 23)
  roundHalfEven n unit * unit

/-- The single-precision pattern nearest `num / den`, for a value of 0 or within 2^-40 to 2^40 (R173). Round to nearest, ties
to even: PRESUMED (log entry 12). -/
def singlePattern (num den : Nat) : BitVec 32 :=
  if num = 0 then 0
  else
    let scaled := num * 2 ^ 64
    let e := Nat.log2 (scaled / den)
    let m := roundHalfEven scaled (den * 2 ^ (e - 23))
    BitVec.ofNat 32 ((e + 63) * 2 ^ 23 + (m - 2 ^ 23))

/-- `operand as f32 / 21.25` (R173); 21.25 is 85 / 4 exactly. -/
def voltageOf (v : Nat) : BitVec 32 :=
  singlePattern (singleOfNat v * 4) 85

/-- `operand as f32 / 4.6545` (R174); the divisor rounded to single precision first is 0x94F1AA / 2^21 (V53). -/
def currentOf (v : Nat) : BitVec 32 :=
  singlePattern (singleOfNat v * 2 ^ 21) 0x94F1AA

/-- The bits of a heartbeat operand that are set, in table order; bits above 17 are ignored (R176, R188). -/
def heartbeatBits (opd : Operand) : List (Fin 18) :=
  (List.finRange 18).filter fun k => opd.getLsbD k.val

/-- `HandlerResult` (R172). -/
inductive HandlerResult where
  | float (bits : BitVec 32)
  | floatPair (voltage current : BitVec 32)
  | conditions (names : List String)
  | raw (value : Operand)
deriving DecidableEq, Repr

/-- An operand reinterpreted by a tag (R173 to R178). -/
def reinterpret (tag : OperandTag) (opd : Operand) : HandlerResult :=
  match tag with
  | .voltage => .float (voltageOf opd.toNat)
  | .current => .float (currentOf opd.toNat)
  | .voltageAndCurrent =>
    .floatPair (voltageOf (opd.extractLsb' 0 8).toNat) (currentOf (opd.extractLsb' 8 8).toNat)
  | .conditions => .conditions ((heartbeatBits opd).map Config.conditionName)
  | .float => .float opd
  | .raw => .raw opd

/-- `interpret(opcode, operand)` (R172), total over the registry. -/
def interpret (c : OpCode) (opd : Operand) : HandlerResult :=
  reinterpret (operationOf c).tag opd

/-- The packing helper (R179): the operand whose bytes, in the opposite order, are the float's. -/
def packFloat (bits : BitVec 32) : Operand := bswap32 bits

/-- The operand the host sends with an operation: setpoint and coefficient values are packed floats (R179, R183). -/
def hostOperand (o : Operation) : Operand :=
  match o with
  | .setSetpointOffset => packFloat Config.setpointOffset
  | .setPid t => packFloat (Config.pidCoefficient t)
  | _ => Config.requestOperand o

/-- What `submit` gives the host (R181): the opcode and the interpreted result, or the error the block reports; or nothing,
because the command was refused or never ended. -/
inductive CycleReturn where
  | done (op : OpCode) (r : HandlerResult) (s : State)
  | failed (c : FaultCode) (s : State)
  | nothing
deriving DecidableEq, Repr

/-- Step 5 of a cycle (R181; 43_validate_and_cycle.md R153): `interpret(ACK_OP, RSP_OPD)`. A code outside the registry is
UnknownOpcode, as in step 4 (R151); no `SUBMIT` that ends without a fault offers one. -/
def interpretResult (t : State) : CycleReturn :=
  match asOpCode (portAckOp t) with
  | some c => .done c (interpret c (portRspOpd t)) t
  | none => .failed .unknownOpcode t

/-- `submit` (R181): `SUBMIT` of a member of the registry, then step 5. -/
def hostSubmit (op : OpCode) (opd : Operand) (s : State) : CycleReturn :=
  match exec (.submit op.val opd) s with
  | .next t => if isHalted t then .failed t.fault t else interpretResult t
  | .fault _ => .nothing
  | .refused _ => .nothing

/-- One action of the monitor loop (R183, R184). -/
inductive HostAction where
  | cycle (o : Operation)
  | sleepSeconds (n : Nat)
deriving DecidableEq, Repr

/-- Initializing, entered once (R183; 70_reset_and_hazards.md R235). -/
def startUpActions : List HostAction :=
  [.cycle .boardReset, .sleepSeconds 5, .cycle .setSetpointOffset, .cycle (.setPid .p), .cycle (.setPid .i),
   .cycle (.setPid .d), .cycle .enableLowPower]

/-- The queries of one polling cycle, in order (R184). -/
def pollOperations : List Operation :=
  [.heartbeat, .getVoltageAndCurrent, .getDewPoint, .getTemperature, .getPowerLevel, .getHumidity]

/-- One polling cycle (R184): the queries, then, the snapshot handed over, a fixed sleep of one second. -/
def pollActions : List HostAction :=
  pollOperations.map .cycle ++ [.sleepSeconds 1]

/-- The two states of the monitor loop, and the process exit that ends both (R182). -/
inductive MonitorState where
  | initializing
  | polling
  | exited
deriving DecidableEq, Repr

/-- Snapshot (R185), the heartbeat conditions by their place in the table. -/
structure Snapshot where
  timestamp : Nat
  heartbeat : BitVec 18
  voltage : BitVec 32
  current : BitVec 32
  dewPoint : BitVec 32
  temperature : BitVec 32
  powerLevel : Operand
  humidity : BitVec 32
deriving DecidableEq, Repr

/-- A fresh snapshot, rebuilt from scratch every cycle (R185): no condition asserted. The other fields stand for nothing
until their query has succeeded. -/
def Snapshot.fresh (timestamp : Nat) : Snapshot :=
  { timestamp, heartbeat := 0, voltage := 0, current := 0, dewPoint := 0, temperature := 0, powerLevel := 0, humidity := 0 }

/-- What the result of a query puts into the snapshot (R184, R185). A heartbeat's conditions are recorded by their place in
the table, from the operand that lists them. -/
def recordQuery (o : Operation) (opd : Operand) (r : HandlerResult) (n : Snapshot) : Snapshot :=
  match o, r with
  | .heartbeat, .conditions _ => { n with heartbeat := opd.setWidth 18 }
  | .getVoltageAndCurrent, .floatPair v c => { n with voltage := v, current := c }
  | .getDewPoint, .float f => { n with dewPoint := f }
  | .getTemperature, .float f => { n with temperature := f }
  | .getPowerLevel, .raw v => { n with powerLevel := v }
  | .getHumidity, .float f => { n with humidity := f }
  | _, _ => n

/-- How a list of actions ends: all done, a cycle failed, or a command was refused, never ended or has no code. -/
inductive ActionsReturn where
  | done (n : Snapshot) (s : State)
  | failed (s : State)
  | nothing
deriving DecidableEq, Repr

/-- The cycles of a list of actions, in order, to the first that fails (R183, R184). Sleeping leaves the block as it is: the
model has no time (70_reset_and_hazards.md R246). -/
def runActions : List HostAction → Snapshot → State → ActionsReturn
  | [], n, s => .done n s
  | .sleepSeconds _ :: rest, n, s => runActions rest n s
  | .cycle o :: rest, n, s =>
    match operationCode o with
    | none => .nothing
    | some op =>
      match hostSubmit op (hostOperand o) s with
      | .done _ r t => runActions rest (recordQuery o (portRspOpd t) r n) t
      | .failed _ t => .failed t
      | .nothing => .nothing

/-- One round of the monitor loop (R182 to R184): start-up leads to polling, polling hands over a snapshot and goes on, any
failure ends the process with no partial snapshot (R187). Nothing where a command was refused, never ended or has no code. -/
def monitorRound (m : MonitorState) (timestamp : Nat) (s : State) : Option (MonitorState × Option Snapshot × State) :=
  match m with
  | .initializing =>
    match runActions startUpActions (Snapshot.fresh timestamp) s with
    | .done _ t => some (.polling, none, t)
    | .failed t => some (.exited, none, t)
    | .nothing => none
  | .polling =>
    match runActions pollActions (Snapshot.fresh timestamp) s with
    | .done n t => some (.polling, some n, t)
    | .failed t => some (.exited, none, t)
    | .nothing => none
  | .exited => some (.exited, none, s)

end Machine

end Sys2Proof
end

