-- ==== Sys2Proof/Safety.lean ====
section
/-! DEFINITION. What a sound state of the machine is, in the terms the statements use: the reachable flag combinations
(95_test_vectors.md part 4), what the buffers hold under their flags (10_state.md R26, R29; 43_validate_and_cycle.md R150), and
what is presented to the block in a run of the five commands of a cycle (R155). -/

namespace Sys2Proof.Machine

/-- The thirteen `STATUS` words of 95_test_vectors.md part 4. -/
def reachableStatus : List (BitVec 9) :=
  [0x000, 0x001, 0x002, 0x006, 0x00E, 0x01C, 0x01D, 0x041, 0x05D, 0x062, 0x086, 0x0CE, 0x10E]

/-- The flags are in one of the thirteen combinations. -/
abbrev FlagsReachable (s : State) : Prop :=
  statusWord s ∈ reachableStatus

/-- Under `TXV` or `REQ_PEND`, `TXF` is the request frame of `REQ_OP` and of some operand, with the right CRC (10_state.md
R22, R24; 30_encoding.md R81). -/
abbrev RequestHeld (s : State) : Prop :=
  s.txv = true ∨ s.reqPend = true → s.txf = encodeRequest s.reqOp (requestOperand s.txf)

/-- Under `REQ_PEND`, the frame in `TXF` is the last thing written to the transport, in full (10_state.md R24). -/
abbrev RequestSent (s : State) : Prop :=
  s.reqPend = true → frameBytes s.txf <:+ s.link.txs

/-- Under `DECV`, the response registers are the fields of `RXF` and its two CRCs agree (10_state.md R25;
42_frame_decode.md R144). -/
abbrev ResponseDecoded (s : State) : Prop :=
  s.decv = true →
    s.rspOp = s.rxf.f1 ∧ s.rspOpd = responseOperand s.rxf ∧ s.rspCrc = crcField s.rxf ∧
      frameCrc s.rxf = crcField s.rxf

/-- Under `RSPV`, `ACK_OP` is a registered opcode and the response's opcode byte is it plus 127 (10_state.md R26;
43_validate_and_cycle.md R150). -/
abbrev ResponseValid (s : State) : Prop :=
  s.rspv = true → registered s.ackOp = true ∧ s.rspOp = s.ackOp + Config.ackOffset

/-- A sound state. -/
structure Sound (s : State) : Prop where
  flags : FlagsReachable s
  held : RequestHeld s
  sent : RequestSent s
  decoded : ResponseDecoded s
  valid : ResponseValid s

/-- Is the instruction one of the nine commands of 30_encoding.md R89? -/
def isCommand : Instr → Bool
  | .nop => true
  | .crcClr => true
  | .crcByte _ => true
  | .encReq _ _ => true
  | .txSend => true
  | .rxLoad => true
  | .decRsp => true
  | .valRsp => true
  | .submit _ _ => true
  | .req _ _ _ => false
  | .rsp _ _ _ _ => false
  | .reqHeartbeat _ _ => false
  | .rspHeartbeat _ _ _ => false
  | .reqTecTemperature _ _ => false
  | .rspTecTemperature _ _ _ => false

/-- An instruction as the outside presents it. -/
def presentInstr (i : Instr) : Input := .present (encode i)

/-- The five commands of a cycle (43_validate_and_cycle.md R155), as the host presents them. -/
def cycleCommands (op : Byte) (opd : Operand) : List Input :=
  [presentInstr (.encReq op opd), presentInstr .txSend, presentInstr .rxLoad, presentInstr .decRsp, presentInstr .valRsp]

/-- `k` steps, stopping at the first that has no next state. -/
def runSteps : Nat → State → Out
  | 0, s => .next s
  | k + 1, s =>
    match step s with
    | .next t => runSteps k t
    | .fault f => .fault f
    | .refused r => .refused r

end Sys2Proof.Machine
end

