-- ==== Sys2Proof/Certificates/Slice0/Obligations.lean ====
section
/-! DEFINITION. The statements for the provers, in the order of OBLIGATIONS.json.

Some formalise what the spec itself marks `[derived]`: 10_state.md R29, 30_encoding.md R93, 40_crc.md R111 (bit by bit),
R113 (the commands) and R119, 41_frame_encode.md R135, 42_frame_decode.md R143, 43_validate_and_cycle.md R151 (the two
readings), R155 and R157, 45_host_contract.md R180, 95_test_vectors.md part 4. Their basis is 'derived'. -/

open Sys2Proof Sys2Proof.Machine

/-! ### The commands: encoding, precondition, effect -/

/-- 40_crc.md R114: `NOP`, code 0000, no precondition; from any state `s`, `NOP` gives `s`. -/
def Obligations.NopGivesTheSameState : Prop :=
  (∀ (din op : Byte) (opd : Operand), decode (.command 0b0000 din op opd) = .ok .nop) ∧
    ∀ s : State, exec .nop s = .next s

/-- 40_crc.md R115: `CRC.CLR`, code 0001; refused where `FAULT != 0`; else it zeroes `CRC` and changes nothing else. -/
def Obligations.CrcClrZeroesTheAccumulator : Prop :=
  (∀ (din op : Byte) (opd : Operand), decode (.command 0b0001 din op opd) = .ok .crcClr) ∧
    (∀ s : State, s.fault ≠ .none → exec .crcClr s = .refused .preconditionFails) ∧
      ∀ s : State, s.fault = .none → exec .crcClr s = .next { s with crc := 0x0000 }

/-- 40_crc.md R116: `CRC.BYTE b`, code 0010, `b = din`; refused where `FAULT != 0`; else it absorbs the byte into the
accumulator, whatever that holds, and changes nothing else; a byte equal to the high half of an accumulator with a zero low
half gives 0; the rule's example, round by round. -/
def Obligations.CrcByteAbsorbsTheByte : Prop :=
  (∀ (din op : Byte) (opd : Operand), decode (.command 0b0010 din op opd) = .ok (.crcByte din)) ∧
    (∀ (b : Byte) (s : State), s.fault ≠ .none → exec (.crcByte b) s = .refused .preconditionFails) ∧
      (∀ (b : Byte) (s : State), s.fault = .none → exec (.crcByte b) s = .next { s with crc := crcByte s.crc b }) ∧
        (∀ b : Byte, crcByte (b ++ 0x00#8) b = 0x0000) ∧ crcByte 0x0000 0xAA = 0x14A0 ∧
          (List.range 9).map (fun n => crcRounds n 0xAA00) =
            [0xAA00, 0x4421, 0x8842, 0x00A5, 0x014A, 0x0294, 0x0528, 0x0A50, 0x14A0]

/-- 41_frame_encode.md R131: `ENC.REQ op, opd`, code 0011; refused where `FAULT != 0` or `REQ_PEND = 1`; else `TXF`,
`REQ_OP`, `CRC` and `TXV` are written and nothing else. -/
def Obligations.EncReqBuildsTheFrame : Prop :=
  (∀ (din op : Byte) (opd : Operand), decode (.command 0b0011 din op opd) = .ok (.encReq op opd)) ∧
    (∀ (op : Byte) (opd : Operand) (s : State), s.fault ≠ .none ∨ s.reqPend = true →
        exec (.encReq op opd) s = .refused .preconditionFails) ∧
      ∀ (op : Byte) (opd : Operand) (s : State), s.fault = .none → s.reqPend = false →
        exec (.encReq op opd) s =
          .next { s with
            txf := encodeRequest op opd, reqOp := op,
            crc := (encodeRequest op opd).f7 ++ (encodeRequest op opd).f6, txv := true }

/-- 41_frame_encode.md R133: `TX.SEND`, code 0100; refused unless `FAULT = 0`, `TXV = 1` and `REQ_PEND = 0`; on `ok` the
eight bytes of `TXF` are appended to `TXS` and the five flags change; on `fail` the first `k` bytes are, and `XDIR` and
`FAULT` alone change. Nothing else does. -/
def Obligations.TxSendWritesTheFrame : Prop :=
  (∀ (din op : Byte) (opd : Operand), decode (.command 0b0100 din op opd) = .ok .txSend) ∧
    (∀ s : State, s.fault ≠ .none ∨ s.txv = false ∨ s.reqPend = true →
        exec .txSend s = .refused .preconditionFails) ∧
      (∀ s : State, s.fault = .none → s.txv = true → s.reqPend = false → nextWriteAnswer s.link = .ok →
        exec .txSend s =
          .next { s with
            link := { s.link with
              txs := s.link.txs ++ frameBytes s.txf, writeScript := s.link.writeScript.tail,
              answers := s.link.answers ++ [.write .ok] },
            txv := false, reqPend := true, rxv := false, decv := false, rspv := false }) ∧
        ∀ (s : State) (k : Fin 9), s.fault = .none → s.txv = true → s.reqPend = false →
          nextWriteAnswer s.link = .fail k →
            exec .txSend s =
              .next { s with
                link := { s.link with
                  txs := s.link.txs ++ (frameBytes s.txf).take k, writeScript := s.link.writeScript.tail,
                  answers := s.link.answers ++ [.write (.fail k)] },
                xdir := .write, fault := .transportError }

/-- 42_frame_decode.md R141: `RX.LOAD`, code 0101; refused unless `FAULT = 0`, `REQ_PEND = 1` and `RXV = 0`; on `ok(bs)`
`RXF` takes the eight bytes and `RXV` is set; on `fail` `XDIR` and `FAULT` are set and `RXF` holds no value (any value `r`).
Nothing else changes. The last clause is the model's reading of a board that never answers (20_memory.md R67; log entries 2
and 11): the same effect as `fail` where a timeout is configured and `rst` does not come first, else no outcome, the answer
used up. -/
def Obligations.RxLoadReadsEightBytes : Prop :=
  (∀ (din op : Byte) (opd : Operand), decode (.command 0b0101 din op opd) = .ok .rxLoad) ∧
    (∀ s : State, s.fault ≠ .none ∨ s.reqPend = false ∨ s.rxv = true →
        exec .rxLoad s = .refused .preconditionFails) ∧
      (∀ (s : State) (F : Frame), s.fault = .none → s.reqPend = true → s.rxv = false →
        nextReadAnswer s.link = .ok F →
          exec .rxLoad s =
            .next { s with
              link := { s.link with
                readScript := s.link.readScript.tail, answers := s.link.answers ++ [.read (.ok F)] },
              rxf := F, rxv := true }) ∧
        (∀ (s : State) (k : Fin 8), s.fault = .none → s.reqPend = true → s.rxv = false →
          nextReadAnswer s.link = .fail k →
            ∃ (r : Frame) (n : Nat),
              exec .rxLoad s =
                .next { s with
                  link := { s.link with
                    readScript := s.link.readScript.tail, answers := s.link.answers ++ [.read (.fail k)] },
                  rxf := r, draws := n, xdir := .read, fault := .transportError }) ∧
          ∀ (s : State) (k : Fin 8), s.fault = .none → s.reqPend = true → s.rxv = false →
            nextReadAnswer s.link = .silent k →
              let used : Transport := { s.link with
                readScript := s.link.readScript.tail, answers := s.link.answers ++ [.read (.silent k)] }
              ∃ (r : Frame) (n : Nat),
                exec .rxLoad s =
                  if Config.xportTimeout = true ∧ s.inputs.head? ≠ some .rst then
                    .next { s with link := used, rxf := r, draws := n, xdir := .read, fault := .transportError }
                  else .fault (.transportBlocked .read used)

/-- 42_frame_decode.md R144: `DEC.RSP`, code 0110; refused unless `FAULT = 0` and `RXV = 1`; the four registers take the
fields of `RXF` and the recomputed CRC whether or not they agree; then `DECV` is set if they do, `FAULT` takes 2 if they do
not. Nothing else changes: that a mismatch leaves `DECV` unwritten, also in a state no run reaches in which it is 1, is the
model's reading (log entry 17). -/
def Obligations.DecRspDecodesTheFrame : Prop :=
  (∀ (din op : Byte) (opd : Operand), decode (.command 0b0110 din op opd) = .ok .decRsp) ∧
    (∀ s : State, s.fault ≠ .none ∨ s.rxv = false → exec .decRsp s = .refused .preconditionFails) ∧
      (∀ s : State, s.fault = .none → s.rxv = true →
        crc16 [s.rxf.f0, s.rxf.f1, s.rxf.f2, s.rxf.f3, s.rxf.f4, s.rxf.f5] = s.rxf.f7 ++ s.rxf.f6 →
          exec .decRsp s =
            .next { s with
              rspOp := s.rxf.f1, rspOpd := s.rxf.f5 ++ s.rxf.f4 ++ s.rxf.f3 ++ s.rxf.f2,
              rspCrc := s.rxf.f7 ++ s.rxf.f6,
              crc := crc16 [s.rxf.f0, s.rxf.f1, s.rxf.f2, s.rxf.f3, s.rxf.f4, s.rxf.f5], decv := true }) ∧
        ∀ s : State, s.fault = .none → s.rxv = true →
          crc16 [s.rxf.f0, s.rxf.f1, s.rxf.f2, s.rxf.f3, s.rxf.f4, s.rxf.f5] ≠ s.rxf.f7 ++ s.rxf.f6 →
            exec .decRsp s =
              .next { s with
                rspOp := s.rxf.f1, rspOpd := s.rxf.f5 ++ s.rxf.f4 ++ s.rxf.f3 ++ s.rxf.f2,
                rspCrc := s.rxf.f7 ++ s.rxf.f6,
                crc := crc16 [s.rxf.f0, s.rxf.f1, s.rxf.f2, s.rxf.f3, s.rxf.f4, s.rxf.f5],
                fault := .checksumMismatch }

/-- 43_validate_and_cycle.md R152: `VAL.RSP`, code 0111; refused unless `FAULT = 0`, `DECV = 1` and `REQ_PEND = 1`; `ACK_OP`
is written in all three branches; then UnknownOpcode, AckMismatch, or `RSPV` set and `REQ_PEND` cleared, in that order of
tests. Nothing else changes. -/
def Obligations.ValRspChecksTheAcknowledgement : Prop :=
  (∀ (din op : Byte) (opd : Operand), decode (.command 0b0111 din op opd) = .ok .valRsp) ∧
    (∀ s : State, s.fault ≠ .none ∨ s.decv = false ∨ s.reqPend = false →
        exec .valRsp s = .refused .preconditionFails) ∧
      (∀ s : State, s.fault = .none → s.decv = true → s.reqPend = true →
        s.rspOp.toNat < 127 ∨ registered (s.rspOp - 127) = false →
          exec .valRsp s = .next { s with ackOp := s.rspOp - 127, fault := .unknownOpcode }) ∧
        (∀ s : State, s.fault = .none → s.decv = true → s.reqPend = true →
          127 ≤ s.rspOp.toNat → registered (s.rspOp - 127) = true → s.rspOp - 127 ≠ s.reqOp →
            exec .valRsp s = .next { s with ackOp := s.rspOp - 127, fault := .ackMismatch }) ∧
          ∀ s : State, s.fault = .none → s.decv = true → s.reqPend = true →
            127 ≤ s.rspOp.toNat → registered (s.rspOp - 127) = true → s.rspOp - 127 = s.reqOp →
              exec .valRsp s = .next { s with ackOp := s.rspOp - 127, rspv := true, reqPend := false }

/-- 43_validate_and_cycle.md R156: `SUBMIT`, code 1000, is refused where `FAULT != 0` or `REQ_PEND = 1`; where the write is
taken and the read returns a frame with the right CRC that acknowledges the opcode, a registered one, the whole cycle ends
validated, in exactly this state. -/
def Obligations.SubmitCompletesTheCycle : Prop :=
  (∀ (din op : Byte) (opd : Operand), decode (.command 0b1000 din op opd) = .ok (.submit op opd)) ∧
    (∀ (op : Byte) (opd : Operand) (s : State), s.fault ≠ .none ∨ s.reqPend = true →
        exec (.submit op opd) s = .refused .preconditionFails) ∧
      ∀ (op : Byte) (opd : Operand) (s : State) (F : Frame), s.fault = .none → s.reqPend = false →
        nextWriteAnswer s.link = .ok →
          nextReadAnswer (afterWrite s.link (frameBytes (encodeRequest op opd))) = .ok F →
            frameCrc F = crcField F → registered op = true → F.f1 = op + 127 →
              exec (.submit op opd) s =
                .next { s with
                  crc := crcField F, txf := encodeRequest op opd, txv := false, reqOp := op, reqPend := false,
                  rxf := F, rxv := true, rspOp := F.f1, rspOpd := responseOperand F, rspCrc := crcField F,
                  decv := true, ackOp := op, rspv := true,
                  link := { s.link with
                    txs := s.link.txs ++ frameBytes (encodeRequest op opd),
                    writeScript := s.link.writeScript.tail, readScript := s.link.readScript.tail,
                    answers := s.link.answers ++ [.write .ok, .read (.ok F)] } }

/-- 43_validate_and_cycle.md R157: the state a `SUBMIT` leaves, by the place its cycle ended: the five rows of the table, and
the completed cycle. The flags, `FAULT`, `XDIR` and the registers the row names hold exactly what it says. -/
def Obligations.SubmitEndStates : Prop :=
  ∀ (op : Byte) (opd : Operand) (s t : State), exec (.submit op opd) s = .next t →
    t.txf = encodeRequest op opd ∧ t.reqOp = op ∧
      ((t.fault = .transportError ∧ t.xdir = .write ∧ t.txv = true ∧ t.reqPend = false ∧ t.rxv = s.rxv ∧
          t.decv = s.decv ∧ t.rspv = s.rspv ∧ t.crc = requestCrc op opd ∧ t.rxf = s.rxf ∧ t.rspOp = s.rspOp ∧
          t.rspOpd = s.rspOpd ∧ t.rspCrc = s.rspCrc ∧ t.ackOp = s.ackOp ∧
          ∃ k ≤ 8, t.link.txs = s.link.txs ++ (frameBytes (encodeRequest op opd)).take k) ∨
        (t.link.txs = s.link.txs ++ frameBytes (encodeRequest op opd) ∧ t.txv = false ∧
          ((t.fault = .transportError ∧ t.xdir = .read ∧ t.reqPend = true ∧ t.rxv = false ∧ t.decv = false ∧
              t.rspv = false ∧ t.crc = requestCrc op opd ∧ t.rspOp = s.rspOp ∧ t.rspOpd = s.rspOpd ∧
              t.rspCrc = s.rspCrc ∧ t.ackOp = s.ackOp) ∨
            (t.xdir = s.xdir ∧ t.rxv = true ∧ t.rspOp = t.rxf.f1 ∧ t.rspOpd = responseOperand t.rxf ∧
              t.rspCrc = crcField t.rxf ∧ t.crc = frameCrc t.rxf ∧
              ((t.fault = .checksumMismatch ∧ t.crc ≠ t.rspCrc ∧ t.reqPend = true ∧ t.decv = false ∧
                  t.rspv = false ∧ t.ackOp = s.ackOp) ∨
                (t.crc = t.rspCrc ∧ t.decv = true ∧ t.ackOp = t.rspOp - 127 ∧
                  ((t.fault = .unknownOpcode ∧ (t.rspOp.toNat < 127 ∨ registered t.ackOp = false) ∧
                      t.reqPend = true ∧ t.rspv = false) ∨
                    (t.fault = .ackMismatch ∧ 127 ≤ t.rspOp.toNat ∧ registered t.ackOp = true ∧
                      t.ackOp ≠ t.reqOp ∧ t.reqPend = true ∧ t.rspv = false) ∨
                    (t.fault = .none ∧ 127 ≤ t.rspOp.toNat ∧ registered t.ackOp = true ∧
                      t.ackOp = t.reqOp ∧ t.reqPend = false ∧ t.rspv = true))))))))

/-- 43_validate_and_cycle.md R155: one `SUBMIT` and the five commands presented one after another end in the same outcome:
the same state (registers, flags, `TXS`, reads of the transport, fault), the same refusal, the same stop on a transport that
never answers. The five are stopped after the first that does not complete; after a cycle without a fault all five have
run. -/
def Obligations.SubmitIsTheFiveCommands : Prop :=
  ∀ (op : Byte) (opd : Operand) (s : State),
    ∃ n, 1 ≤ n ∧ n ≤ 5 ∧
      runSteps n { s with inputs := (cycleCommands op opd).take n } =
        step { s with inputs := [presentInstr (.submit op opd)] } ∧
        ∀ t : State, step { s with inputs := [presentInstr (.submit op opd)] } = .next t → t.fault = .none → n = 5

/-! ### Refusals, faults, reset -/

/-- 30_encoding.md R90: command codes 9 to 15 are refused, whatever the ports carry and whatever the state. -/
def Obligations.ReservedCodesAreRefused : Prop :=
  ∀ (cmd : BitVec 4) (din op : Byte) (opd : Operand) (s : State) (rest : List Input),
    9 ≤ cmd.toNat → s.inputs = .present (.command cmd din op opd) :: rest →
      step s = .refused (.reservedCode cmd)

/-- 60_exceptions.md R209: while `FAULT != 0`, `NOP` gives the same state and every other command is refused. -/
def Obligations.HaltedBlockAcceptsOnlyNop : Prop :=
  ∀ (i : Instr) (s : State), isCommand i = true → s.fault ≠ .none →
    exec i s = if i = .nop then .next s else .refused .preconditionFails

/-- 70_reset_and_hazards.md R236: each command is refused exactly outside its precondition in the table; `NOP` never is. -/
def Obligations.CommandsAreRefusedExactlyOutsideTheirPrecondition : Prop :=
  ∀ (s : State) (b op : Byte) (opd : Operand),
    (∀ r, exec .nop s ≠ .refused r) ∧
      ((∃ r, exec .crcClr s = .refused r) ↔ ¬ s.fault = .none) ∧
      ((∃ r, exec (.crcByte b) s = .refused r) ↔ ¬ s.fault = .none) ∧
      ((∃ r, exec (.encReq op opd) s = .refused r) ↔ ¬ (s.fault = .none ∧ s.reqPend = false)) ∧
      ((∃ r, exec .txSend s = .refused r) ↔ ¬ (s.fault = .none ∧ s.txv = true ∧ s.reqPend = false)) ∧
      ((∃ r, exec .rxLoad s = .refused r) ↔ ¬ (s.fault = .none ∧ s.reqPend = true ∧ s.rxv = false)) ∧
      ((∃ r, exec .decRsp s = .refused r) ↔ ¬ (s.fault = .none ∧ s.rxv = true)) ∧
      ((∃ r, exec .valRsp s = .refused r) ↔ ¬ (s.fault = .none ∧ s.decv = true ∧ s.reqPend = true)) ∧
      ((∃ r, exec (.submit op opd) s = .refused r) ↔ ¬ (s.fault = .none ∧ s.reqPend = false))

/-- 10_state.md R30, 60_exceptions.md R211: once `FAULT` is non-zero it keeps its value whatever a step does, and the block
is halted (every command but `NOP` is refused), until `rst`, which clears it. -/
def Obligations.FaultIsStickyUntilReset : Prop :=
  (∀ s t : State, s.fault ≠ .none → (∀ rest, s.inputs ≠ .rst :: rest) → step s = .next t → t.fault = s.fault) ∧
    (∀ (s : State) (i : Instr), s.fault ≠ .none → isCommand i = true → i ≠ .nop →
      exec i s = .refused .preconditionFails) ∧
      ∀ (s : State) (rest : List Input), s.inputs = .rst :: rest → ∃ t, step s = .next t ∧ t.fault = .none

/-- 70_reset_and_hazards.md R232: in every state, halted or not, `rst` leads to the flags, `FAULT`, `XDIR` and `CRC` of R231,
and leaves the transport with its history as it is. -/
def Obligations.ResetKeepsTheTransport : Prop :=
  ∀ (s : State) (rest : List Input), s.inputs = .rst :: rest →
    ∃ t : State, step s = .next t ∧ t.link = s.link ∧ t.inputs = rest ∧ t.crc = 0x0000 ∧ t.txv = false ∧
      t.reqPend = false ∧ t.rxv = false ∧ t.decv = false ∧ t.rspv = false ∧ t.fault = .none ∧ t.xdir = .write ∧
        statusWord t = 0x000

/-- 70_reset_and_hazards.md R231: the values the spec states for the state after reset (not those of registers it leaves
without a value, log entry 3), and `TXS` empty (log entry 15). -/
def Obligations.ResetStateHasTheStatedValues : Prop :=
  State.reset.crc = 0x0000 ∧ State.reset.txv = false ∧ State.reset.reqPend = false ∧ State.reset.rxv = false ∧
    State.reset.decv = false ∧ State.reset.rspv = false ∧ State.reset.fault = .none ∧ State.reset.xdir = .write ∧
      statusWord State.reset = 0x000 ∧ State.reset.link.txs = []

/-- 20_memory.md R67: where the transport never answers, the command faults if a timeout is configured and has no outcome if
none is; what the command did to the transport before that is kept in the stop (log entry 2). A `rst` that comes next comes
before the timeout (log entry 11). -/
def Obligations.UnansweredTransferFaultsOrBlocks : Prop :=
  (∀ (s : State) (k : Fin 9), s.fault = .none → s.txv = true → s.reqPend = false →
      nextWriteAnswer s.link = .silent k →
        exec .txSend s =
          if Config.xportTimeout = true ∧ s.inputs.head? ≠ some .rst then
            .next { s with link := afterWrite s.link (frameBytes s.txf), xdir := .write, fault := .transportError }
          else .fault (.transportBlocked .write (afterWrite s.link (frameBytes s.txf)))) ∧
    ∀ (s : State) (k : Fin 8), s.fault = .none → s.reqPend = true → s.rxv = false →
      nextReadAnswer s.link = .silent k →
        ∃ (r : Frame) (n : Nat),
          exec .rxLoad s =
            if Config.xportTimeout = true ∧ s.inputs.head? ≠ some .rst then
              .next { s with
                link := afterRead s.link, rxf := r, draws := n, xdir := .read, fault := .transportError }
            else .fault (.transportBlocked .read (afterRead s.link))

/-- 70_reset_and_hazards.md R230, R231: `rst` abandons a command in progress, whether or not a timeout is configured. A step
on `TX.SEND`, `RX.LOAD` or `SUBMIT` whose transfer waits on the transport when `rst` comes leads straight to the reset
values, `rst` taken; the bytes that reached the line stay on it (R232), and no more follow (log entries 2 and 11). -/
def Obligations.ResetAbandonsACommandInProgress : Prop :=
  ∀ (s : State) (rest : List Input) (i : Instr), s.inputs = presentInstr i :: .rst :: rest → s.fault = .none →
    let resetWith := fun (txs : List Byte) =>
      ∃ t : State, step s = .next t ∧ t.crc = 0x0000 ∧ t.fault = .none ∧ t.xdir = .write ∧ statusWord t = 0x000 ∧
        t.inputs = rest ∧ t.link.txs = txs
    (∀ k : Fin 9, i = .txSend → s.txv = true → s.reqPend = false → nextWriteAnswer s.link = .silent k →
      resetWith (s.link.txs ++ (frameBytes s.txf).take k)) ∧
    (∀ k : Fin 8, i = .rxLoad → s.reqPend = true → s.rxv = false → nextReadAnswer s.link = .silent k →
      resetWith s.link.txs) ∧
    (∀ (k : Fin 9) (op : Byte) (opd : Operand), i = .submit op opd → s.reqPend = false →
      nextWriteAnswer s.link = .silent k →
        resetWith (s.link.txs ++ (frameBytes (encodeRequest op opd)).take k)) ∧
    ∀ (k : Fin 8) (op : Byte) (opd : Operand), i = .submit op opd → s.reqPend = false →
      nextWriteAnswer s.link = .ok →
        nextReadAnswer (afterWrite s.link (frameBytes (encodeRequest op opd))) = .silent k →
          resetWith (s.link.txs ++ frameBytes (encodeRequest op opd))

/-! ### Invariants that every step keeps -/

/-- 95_test_vectors.md part 4: whatever is presented to the block after reset, in whatever order, and whatever the transport
answers, the flags are in one of the thirteen combinations after every step. -/
def Obligations.EveryRunFromResetHasReachableFlags : Prop :=
  ∀ (ins : List Input) (l : Transport) (n : Nat) (t : State),
    runSteps n { State.reset with inputs := ins, link := l } = .next t → FlagsReachable t

/-- The state after reset has reachable flags. -/
def Obligations.ResetFlagsAreReachable : Prop := FlagsReachable State.reset

/-- 10_state.md R29: in a state with reachable flags and no fault, `DECV` implies `RXV`; `RSPV` implies `DECV` and no
request outstanding; a request outstanding implies that no frame waits to be sent. -/
def Obligations.ReachableFlagsObeyTheImplications : Prop :=
  ∀ s : State, FlagsReachable s → s.fault = .none →
    (s.decv = true → s.rxv = true) ∧ (s.rspv = true → s.decv = true ∧ s.reqPend = false) ∧
      (s.reqPend = true → s.txv = false) ∧ s.xdir = .write

/-- Every step keeps a sound state sound: the flags, the request frame under `TXV` or `REQ_PEND`, the request on the wire
under `REQ_PEND`, the decoded fields under `DECV`, the acknowledgement under `RSPV` (10_state.md R22, R24, R25, R26). -/
def Obligations.EveryStepKeepsSoundness : Prop :=
  ∀ s t : State, Sound s → step s = .next t → Sound t

/-- The state after reset is sound. -/
def Obligations.ResetStateIsSound : Prop := Sound State.reset

/-- 43_validate_and_cycle.md R150: whenever a command that validates (`VAL.RSP`, `SUBMIT`) ends without a fault in a sound
state, the response is valid: its opcode byte is the request opcode plus 127 and the CRC recomputed over the first six bytes
equals the transmitted one; the request opcode is then a registered one. -/
def Obligations.ValidatedResponseMeetsTheInvariant : Prop :=
  ∀ (i : Instr) (s t : State), Sound s → i = .valRsp ∨ (∃ op opd, i = .submit op opd) → exec i s = .next t →
    t.fault = .none →
      t.rspv = true ∧ t.rspOp = t.reqOp + 127 ∧ crc16 [t.rxf.f0, t.rxf.f1, t.rxf.f2, t.rxf.f3, t.rxf.f4, t.rxf.f5] =
        t.rspCrc ∧ t.rspCrc = t.rxf.f7 ++ t.rxf.f6 ∧ t.rspOp = t.rxf.f1 ∧ registered t.reqOp = true

/-- 10_state.md R35: `TXS` is append-only: every step leaves it as it is or adds to its end. -/
def Obligations.TransmitStreamIsAppendOnly : Prop :=
  ∀ s t : State, step s = .next t → s.link.txs <+: t.link.txs

/-- 10_state.md R24: while a request is outstanding no step but one that takes `rst` writes anything to the transport, changes
`TXF` or `REQ_OP`. A step takes the `rst` that is presented next, or the one behind a command it abandons. -/
def Obligations.OneRequestOutstanding : Prop :=
  ∀ s t : State, s.reqPend = true → (∀ rest, s.inputs ≠ .rst :: rest) →
    (∀ (p : Presented) (rest : List Input), s.inputs = .present p :: .rst :: rest → t.inputs ≠ rest) →
      step s = .next t → t.link.txs = s.link.txs ∧ t.txf = s.txf ∧ t.reqOp = s.reqOp

/-- 43_validate_and_cycle.md R153: while `RSPV = 1` the pair on the ports is (`ACK_OP`, `RSP_OPD`); in a sound state every
instruction leaves it and `RSPV` as they are, `TX.SEND` and `SUBMIT` too unless their write is taken; a `TX.SEND` whose write
is taken ends it. -/
def Obligations.ResultIsHeldUntilTheNextSend : Prop :=
  (∀ s : State, Sound s → s.rspv = true → cycleResult s = some (s.ackOp, s.rspOpd)) ∧
    (∀ (i : Instr) (s t : State), Sound s → s.rspv = true →
      (i = .txSend ∨ (∃ op opd, i = .submit op opd) → nextWriteAnswer s.link ≠ .ok) →
        exec i s = .next t → cycleResult t = some (s.ackOp, s.rspOpd) ∧ t.rspv = true) ∧
      ∀ s t : State, nextWriteAnswer s.link = .ok → exec .txSend s = .next t → cycleResult t = none

/-! ### Who writes what -/

/-- 10_state.md R20, column "written by", read the other way: an instruction that is not listed for an item leaves it as it
is. The request frame rows count as `ENC.REQ` and the response frame rows write no register (log entry 8). -/
def Obligations.OnlyTheListedCommandsWrite : Prop :=
  ∀ (i : Instr) (s t : State), exec i s = .next t →
    let sub := ∃ op opd, i = .submit op opd
    let enc := (∃ op opd, i = .encReq op opd) ∨ (∃ op opd crc, i = .req op opd crc) ∨
      (∃ opd crc, i = .reqHeartbeat opd crc) ∨ ∃ opd crc, i = .reqTecTemperature opd crc
    (¬ (i = .crcClr ∨ (∃ b, i = .crcByte b) ∨ enc ∨ i = .decRsp ∨ sub) → t.crc = s.crc) ∧
      (¬ (enc ∨ sub) → t.txf = s.txf ∧ t.reqOp = s.reqOp) ∧
      (¬ (enc ∨ i = .txSend ∨ sub) → t.txv = s.txv) ∧
      (¬ (i = .txSend ∨ i = .valRsp ∨ sub) → t.reqPend = s.reqPend) ∧
      (¬ (i = .rxLoad ∨ sub) → t.rxf = s.rxf) ∧
      (¬ (i = .rxLoad ∨ i = .txSend ∨ sub) → t.rxv = s.rxv) ∧
      (¬ (i = .decRsp ∨ sub) → t.rspOp = s.rspOp ∧ t.rspOpd = s.rspOpd ∧ t.rspCrc = s.rspCrc) ∧
      (¬ (i = .decRsp ∨ i = .txSend ∨ sub) → t.decv = s.decv) ∧
      (¬ (i = .valRsp ∨ sub) → t.ackOp = s.ackOp) ∧
      (¬ (i = .valRsp ∨ i = .txSend ∨ sub) → t.rspv = s.rspv) ∧
      (¬ (i = .txSend ∨ i = .rxLoad ∨ i = .decRsp ∨ i = .valRsp ∨ sub) → t.fault = s.fault) ∧
      (¬ (i = .txSend ∨ i = .rxLoad ∨ sub) → t.xdir = s.xdir) ∧
      t.inputs = s.inputs

/-- 20_memory.md R50: of the nine commands only `TX.SEND` and `SUBMIT` add to the transmit stream, and only `RX.LOAD` and
`SUBMIT` take from the receive side; every other command leaves the transport as it is. -/
def Obligations.OnlySendAndLoadTouchTheTransport : Prop :=
  ∀ (i : Instr) (s t : State), isCommand i = true → i ≠ .txSend → (∀ op opd, i ≠ .submit op opd) →
    exec i s = .next t → t.link.txs = s.link.txs ∧ (i ≠ .rxLoad → t.link = s.link)

/-! ### The CRC -/

/-- 40_crc.md R111: one round, as the conditional shift and XOR and bit by bit. -/
def Obligations.CrcRoundBitByBit : Prop :=
  ∀ a : Crc,
    crcRound a = (if a.getLsbD 15 = true then ((a <<< 1) &&& 0xFFFF) ^^^ 0x1021 else (a <<< 1) &&& 0xFFFF) ∧
      (crcRound a).getLsbD 0 = a.getLsbD 15 ∧ (crcRound a).getLsbD 5 = (a.getLsbD 4 ^^ a.getLsbD 15) ∧
        (crcRound a).getLsbD 12 = (a.getLsbD 11 ^^ a.getLsbD 15) ∧
          ∀ j : Nat, j < 15 → j ≠ 4 → j ≠ 11 → (crcRound a).getLsbD (j + 1) = a.getLsbD j

/-- 40_crc.md R113: `crc16` is the left fold of `crc_byte` from 0; and presenting `CRC.CLR` and then `CRC.BYTE` for each byte
leaves `CRC = crc16(bs)` and everything else as it was, for a byte sequence of any length. -/
def Obligations.CrcCommandsComputeCrc16 : Prop :=
  crc16 [] = 0x0000 ∧ (∀ (bs : List Byte) (b : Byte), crc16 (bs ++ [b]) = crcByte (crc16 bs) b) ∧
    ∀ (bs : List Byte) (s : State), s.fault = .none →
      runSteps (bs.length + 1)
          { s with inputs := presentInstr .crcClr :: bs.map fun b => presentInstr (.crcByte b) } =
        .next { s with inputs := [], crc := crc16 bs }

/-- 40_crc.md R119 item 2: any number of zero bytes in front leaves the CRC of what follows. -/
def Obligations.LeadingZeroBytesAreInvisible : Prop :=
  ∀ (n : Nat) (bs : List Byte), crc16 (List.replicate n 0x00 ++ bs) = crc16 bs

/-- 40_crc.md R119 item 3: for two sequences of equal length the CRC of the bytewise XOR is the XOR of the CRCs. -/
def Obligations.Crc16IsLinear : Prop :=
  ∀ xs ys : List Byte, xs.length = ys.length →
    crc16 (List.zipWith (fun x y => x ^^^ y) xs ys) = crc16 xs ^^^ crc16 ys

/-- 40_crc.md R119 item 4: changing one byte of a sequence, at any place and by any amount, changes the CRC. (The spec says
it of the six covered bytes.) -/
def Obligations.OneChangedByteChangesTheCrc : Prop :=
  ∀ (before after : List Byte) (x y : Byte), x ≠ y →
    crc16 (before ++ x :: after) ≠ crc16 (before ++ y :: after)

/-- 40_crc.md R119 item 4, second half: a change of exactly two bits among the 48 covered bits changes the CRC. Bit `i` of
the 48 is bit `i mod 8` of byte `i / 8`. -/
def Obligations.TwoChangedBitsChangeTheCrc : Prop :=
  ∀ (bs : List Byte) (i j : Fin 48), bs.length = 6 → i ≠ j →
    let flip := fun (n : Fin 48) (cs : List Byte) =>
      cs.modify (n.val / 8) fun b => b ^^^ (1#8 <<< (n.val % 8))
    crc16 (flip i (flip j bs)) ≠ crc16 bs

/-- 40_crc.md R119 item 5, in general: the XOR of two frames with the right CRC has the right CRC, so a change that is itself
such a frame goes unnoticed. -/
def Obligations.XorOfTwoValidFramesIsValid : Prop :=
  ∀ F G : Frame, frameCrc F = crcField F → frameCrc G = crcField G →
    let H : Frame :=
      { f0 := F.f0 ^^^ G.f0, f1 := F.f1 ^^^ G.f1, f2 := F.f2 ^^^ G.f2, f3 := F.f3 ^^^ G.f3,
        f4 := F.f4 ^^^ G.f4, f5 := F.f5 ^^^ G.f5, f6 := F.f6 ^^^ G.f6, f7 := F.f7 ^^^ G.f7 }
    decodeResponse H = some (F.f1 ^^^ G.f1, responseOperand F ^^^ responseOperand G)

/-! ### Frames -/

/-- 41_frame_encode.md R130: the eight bytes of a request frame. -/
def Obligations.RequestFrameLayout : Prop :=
  ∀ (op : Byte) (opd : Operand),
    let c := crc16 [0xAA, op, opd.extractLsb' 24 8, opd.extractLsb' 16 8, opd.extractLsb' 8 8, opd.extractLsb' 0 8]
    frameBytes (encodeRequest op opd) =
      [0xAA, op, opd.extractLsb' 24 8, opd.extractLsb' 16 8, opd.extractLsb' 8 8, opd.extractLsb' 0 8,
       c.extractLsb' 0 8, c.extractLsb' 8 8]

/-- 42_frame_decode.md R140: `decode_response` yields the opcode byte and the little-endian operand, or fails, exactly when
the CRC over bytes 0 to 5 differs from bytes 6 and 7 read low byte first; for each choice of the six bytes exactly one choice
of the last two is accepted. -/
def Obligations.ResponseFrameDecoding : Prop :=
  (∀ F : Frame,
    decodeResponse F =
      if crc16 [F.f0, F.f1, F.f2, F.f3, F.f4, F.f5] =
          F.f6.setWidth 16 ||| (F.f7.setWidth 16 <<< 8) then
        some (F.f1, F.f2.setWidth 32 ||| (F.f3.setWidth 32 <<< 8) ||| (F.f4.setWidth 32 <<< 16) |||
          (F.f5.setWidth 32 <<< 24))
      else none) ∧
    ∀ a b c d e f : Byte, ∃ g h : Byte, ∀ g' h' : Byte,
      decodeResponse ⟨a, b, c, d, e, f, g', h'⟩ ≠ none ↔ g' = g ∧ h' = h

/-- 42_frame_decode.md R143: decoding an encoded request passes the CRC check, gives the opcode back unchanged and the
operand with its four bytes reversed; it comes back equal exactly when it reads the same in both byte orders. -/
def Obligations.DecodingAnEncodedRequest : Prop :=
  ∀ (op : Byte) (opd : Operand), decodeResponse (encodeRequest op opd) = some (op, bswap32 opd) ∧
    bswap32 (bswap32 opd) = opd

/-- 41_frame_encode.md R135: the encoder is injective, its frames are well formed, read by the response decoder they yield
the opcode and the byte-reversed operand, and the accumulator after the sync byte is 0x14A0. -/
def Obligations.EncoderProperties : Prop :=
  (∀ (op op' : Byte) (opd opd' : Operand), encodeRequest op opd = encodeRequest op' opd' → op = op' ∧ opd = opd') ∧
    (∀ (op : Byte) (opd : Operand),
      (encodeRequest op opd).f0 = 0xAA ∧ crcField (encodeRequest op opd) = frameCrc (encodeRequest op opd) ∧
        decodeResponse (encodeRequest op opd) = some (op, bswap32 opd) ∧
        crcByte 0x0000 (encodeRequest op opd).f0 = 0x14A0)

/-- 95_test_vectors.md S6: changing any single byte of a frame that decodes, covered or CRC, makes it fail. -/
def Obligations.TamperingOneByteIsDetected : Prop :=
  ∀ (F : Frame) (v : Byte), decodeResponse F ≠ none →
    (v ≠ F.f0 → decodeResponse { F with f0 := v } = none) ∧ (v ≠ F.f1 → decodeResponse { F with f1 := v } = none) ∧
      (v ≠ F.f2 → decodeResponse { F with f2 := v } = none) ∧ (v ≠ F.f3 → decodeResponse { F with f3 := v } = none) ∧
      (v ≠ F.f4 → decodeResponse { F with f4 := v } = none) ∧ (v ≠ F.f5 → decodeResponse { F with f5 := v } = none) ∧
      (v ≠ F.f6 → decodeResponse { F with f6 := v } = none) ∧ (v ≠ F.f7 → decodeResponse { F with f7 := v } = none)

/-! ### Encodings and the step -/

/-- Decode and encode agree on every well-formed instruction, every operand at every value (30_encoding.md sections 1 to
3, 5; log entry 20). -/
def Obligations.DecodeOfEncodeIsTheInstruction : Prop :=
  ∀ i : Instr, i.wellFormed = true → decode (encode i) = .ok i

/-- The other way: no bit of a frame is dropped by the decoder; a command keeps its code and the operand ports it reads (`din`
for code 2, `op_in` and `opd_in` for codes 3 and 8), and the ports it does not read are encoded as 0 (log entry 9). -/
def Obligations.EncodeOfDecodeIsTheWord : Prop :=
  (∀ (d : Direction) (p : BitVec 64) (i : Instr), decode (.frame d p) = .ok i → encode i = .frame d p) ∧
    ∀ (cmd : BitVec 4) (din op : Byte) (opd : Operand) (i : Instr), decode (.command cmd din op opd) = .ok i →
      encode i =
        .command cmd (if cmd = 2 then din else 0) (if cmd = 3 ∨ cmd = 8 then op else 0)
          (if cmd = 3 ∨ cmd = 8 then opd else 0)

/-- Words written out from the spec's encodings: the codes of 30_encoding.md R89 and the frames of 95_test_vectors.md S2, S3,
S4, V30, V37 and V47; a 64-bit table word's direction is log entry 9. -/
def Obligations.WrittenOutWordsDecode : Prop :=
  decodeTableWord 8 0b0000 = some .nop ∧ decodeTableWord 8 0b0001 = some .crcClr ∧
    decode (.command 0b0010 0xAA 0 0) = .ok (.crcByte 0xAA) ∧
    decode (.command 0b0011 0 0x01 0x0000C842) = .ok (.encReq 0x01 0x0000C842) ∧
    decodeTableWord 8 0b0100 = some .txSend ∧ decodeTableWord 8 0b0101 = some .rxLoad ∧
    decodeTableWord 8 0b0110 = some .decRsp ∧ decodeTableWord 8 0b0111 = some .valRsp ∧
    decode (.command 0b1000 0 0x24 0xDEADBEEF) = .ok (.submit 0x24 0xDEADBEEF) ∧
    decodeTableWord 64 0xAA00000000002A67 = some (.reqHeartbeat 0 0x672A) ∧
    decodeTableWord 64 0xAA7F00000000551F = some (.rspHeartbeat 0xAA 0 0x1F55) ∧
    decodeTableWord 64 0xAA80295C5B41CC20 = some (.rspTecTemperature 0xAA 0x415B5C29 0x20CC) ∧
    decodeTableWord 64 0xAA010000C842003A = some (.reqTecTemperature 0x0000C842 0x3A00) ∧
    decodeTableWord 64 0xAA24DEADBEEFCF22 = some (.req 0x24 0xDEADBEEF 0x22CF) ∧
    decodeTableWord 64 0x00AA7F0000000055 = some (.rsp 0x00 0xAA 0x0000007F 0x5500)

/-- What a step does: nothing presented, the state stays; what is presented and decodes to `i` runs as `exec i` on the state
with that input taken, and a command that waits on the transport when `rst` comes next is ended by it (log entries 7 and
11). -/
def Obligations.AStepRunsTheDecodedInstruction : Prop :=
  (∀ s : State, s.inputs = [] → step s = .next s) ∧
    ∀ (s : State) (p : Presented) (rest : List Input) (i : Instr), s.inputs = .present p :: rest → decode p = .ok i →
      step s =
        match exec i { s with inputs := rest }, rest with
        | .fault (.transportBlocked _ l), .rst :: later => .next (resetBlock { s with inputs := later, link := l })
        | o, _ => o

/-! ### The frame rows of the opcode table -/

/-- The model's reading of the request frame rows (log entry 8): a request frame with the right CRC runs as `ENC.REQ` of its
opcode and operand and leaves that very frame in `TXF`, or is refused where `ENC.REQ` is; one whose CRC is not its own is
refused. -/
def Obligations.RequestFrameRowsRunAsEncReq : Prop :=
  (∀ (op : Byte) (opd : Operand) (s : State), s.fault = .none → s.reqPend = false →
      let built : State :=
        { s with
          txf := requestFrame 0xAA op opd (requestCrc op opd), reqOp := op, crc := requestCrc op opd, txv := true }
      exec (.req op opd (requestCrc op opd)) s = .next built ∧
        (op = 0 → exec (.reqHeartbeat opd (requestCrc op opd)) s = .next built) ∧
          (op = 1 → exec (.reqTecTemperature opd (requestCrc op opd)) s = .next built)) ∧
    (∀ (op : Byte) (opd : Operand) (s : State), s.fault ≠ .none ∨ s.reqPend = true →
      exec (.req op opd (requestCrc op opd)) s = .refused .preconditionFails ∧
        (op = 0 → exec (.reqHeartbeat opd (requestCrc op opd)) s = .refused .preconditionFails) ∧
          (op = 1 → exec (.reqTecTemperature opd (requestCrc op opd)) s = .refused .preconditionFails)) ∧
    ∀ (op : Byte) (opd : Operand) (crc : Crc) (s : State), crc ≠ requestCrc op opd →
      exec (.req op opd crc) s = .refused (.notEncoded crc) ∧
        (op = 0 → exec (.reqHeartbeat opd crc) s = .refused (.notEncoded crc)) ∧
          (op = 1 → exec (.reqTecTemperature opd crc) s = .refused (.notEncoded crc))

/-- The model's reading of the response frame rows (log entry 8): in every state the frame becomes the transport's answer to
the read after those already fixed, and nothing else changes. -/
def Obligations.ResponseFrameRowsReachTheTransport : Prop :=
  ∀ (sync rop : Byte) (opd : Operand) (crc : Crc) (s : State),
    let delivered : State :=
      { s with link := { s.link with readScript := s.link.readScript ++ [.ok (responseFrame sync rop opd crc)] } }
    exec (.rsp sync rop opd crc) s = .next delivered ∧
      (rop = 0x7F → exec (.rspHeartbeat sync opd crc) s = .next delivered) ∧
        (rop = 0x80 → exec (.rspTecTemperature sync opd crc) s = .next delivered)

/-- A response frame presented while its request is outstanding is what `RX.LOAD` reads and `DEC.RSP` decodes: three steps
leave the row's fields in the response registers, and `DECV` or ChecksumMismatch according to its CRC (30_encoding.md R82,
R91; 42_frame_decode.md R141, R144; log entry 8). -/
def Obligations.APresentedResponseIsDecoded : Prop :=
  ∀ (sync rop : Byte) (opd : Operand) (crc : Crc) (s : State),
    s.fault = .none → s.reqPend = true → s.rxv = false → s.decv = false → s.link.readScript = [] →
      ∃ t : State,
        runSteps 3
            { s with inputs := [.present (encodeResponseRow sync rop opd crc), presentInstr .rxLoad,
                                presentInstr .decRsp] } = .next t ∧
          t.rspOp = rop ∧ t.rspOpd = opd ∧ t.rspCrc = crc ∧ t.rxv = true ∧ t.reqPend = true ∧
            t.link.readScript = [] ∧ t.link.txs = s.link.txs ∧
            ((t.decv = true ∧ t.fault = .none ∧ crc = frameCrc (responseFrame sync rop opd crc)) ∨
              (t.decv = false ∧ t.fault = .checksumMismatch ∧ crc ≠ frameCrc (responseFrame sync rop opd crc)))

/-! ### The validator's registry -/

/-- 43_validate_and_cycle.md R151: both readings of the subtraction agree: an opcode byte below 127, wrapped to 8 bits, is in
no registry; a byte of 127 or more is in it exactly if the difference is. -/
def Obligations.BelowTheOffsetIsUnrecognized : Prop :=
  ∀ (mask : BitVec 37) (b : Byte),
    (b.toNat < 127 → registryHolds mask (b - 127) = false) ∧ (127 ≤ b.toNat → (b - 127).toNat = b.toNat - 127) ∧
      (163 < b.toNat → registryHolds mask (b - 127) = false)

/-- 00_scope.md R6 (log entry 6): every registry the model admits is a subset of 0 to 36 that holds 0 and 1, and every such subset is one
it admits. -/
def Obligations.RegistryIsAnySubsetWithZeroAndOne : Prop :=
  (∀ mask : BitVec 37, registryHolds mask 0 = true ∧ registryHolds mask 1 = true ∧
      ∀ c : Byte, registryHolds mask c = true → c.toNat ≤ 36) ∧
    ∀ codes : List Byte, 0 ∈ codes → 1 ∈ codes → (∀ c ∈ codes, c.toNat ≤ 36) →
      ∃ mask : BitVec 37, ∀ c : Byte, registryHolds mask c = true ↔ c ∈ codes

/-- 30_encoding.md R93: a request with an opcode outside the registry is encoded, but its cycle can never complete: neither
`VAL.RSP` nor `SUBMIT` ends without a fault. -/
def Obligations.UnregisteredRequestNeverCompletes : Prop :=
  (∀ s t : State, registered s.reqOp = false → exec .valRsp s = .next t → t.fault ≠ .none ∧ t.rspv = s.rspv) ∧
    ∀ (op : Byte) (opd : Operand) (s t : State), registered op = false → exec (.submit op opd) s = .next t →
      t.fault ≠ .none

/-! ### The status word and the ports -/

/-- 10_state.md R31: the fields of `STATUS`, bit by bit, the fault codes, and the value of every field at reset. -/
def Obligations.StatusWordFields : Prop :=
  faultNumber .none = 0 ∧ faultNumber .transportError = 1 ∧ faultNumber .checksumMismatch = 2 ∧
    faultNumber .unknownOpcode = 3 ∧ faultNumber .ackMismatch = 4 ∧ statusWord State.reset = 0x000 ∧
  ∀ s : State,
    (statusWord s).getLsbD 0 = s.txv ∧ (statusWord s).getLsbD 1 = s.reqPend ∧ (statusWord s).getLsbD 2 = s.rxv ∧
      (statusWord s).getLsbD 3 = s.decv ∧ (statusWord s).getLsbD 4 = s.rspv ∧
      (statusWord s).getLsbD 5 = (s.xdir == .read) ∧ (statusWord s).extractLsb' 6 3 = faultNumber s.fault ∧
      (faultNumber s.fault).toNat ≤ 4

/-- 70_reset_and_hazards.md R240, 60_exceptions.md R207: the ports show the registers under their valid flags, and after a
fault the rejected frame's fields or the rejected acknowledgement; `fault` is 1 exactly when `FAULT != 0`, and bit 4 of
`status` is 1 exactly when a result is offered. -/
def Obligations.PortsShowTheRegisters : Prop :=
  ∀ s : State,
    (s.decv = true ∨ s.fault = .checksumMismatch →
        portRspOp s = s.rspOp ∧ portRspOpd s = s.rspOpd ∧ portRspCrc s = s.rspCrc) ∧
      (s.rspv = true ∨ s.fault = .unknownOpcode ∨ s.fault = .ackMismatch → portAckOp s = s.ackOp) ∧ portCrcOut s = s.crc ∧ (portFault s = 1 ↔ s.fault ≠ .none) ∧
        ((portStatus s).getLsbD 4 = true ↔ (cycleResult s).isSome = true)

/-- 42_frame_decode.md R144 (d): `DEC.RSP` may be repeated; it recomputes the same values. -/
def Obligations.RepeatedDecodingChangesNothing : Prop :=
  ∀ s t : State, exec .decRsp s = .next t → t.fault = .none → exec .decRsp t = .next t

/-! ### The host's side (45_host_contract.md) -/

/-- 45_host_contract.md R179, R180: a float packed and encoded leaves as its little-endian bytes in `F[2]` to `F[5]`; a
response with those bytes decodes to the float's pattern. -/
def Obligations.PackedFloatTravelsLittleEndian : Prop :=
  ∀ (op : Byte) (bits : BitVec 32),
    let F := encodeRequest op (packFloat bits)
    F.f2 = bits.extractLsb' 0 8 ∧ F.f3 = bits.extractLsb' 8 8 ∧ F.f4 = bits.extractLsb' 16 8 ∧
      F.f5 = bits.extractLsb' 24 8 ∧ responseOperand F = bits

/-- 45_host_contract.md R176, R188: a heartbeat operand lists exactly the conditions whose bit is set, in table order; setting
bits only adds conditions and reorders none; bits above 17 change nothing; an operand of 0 gives none; and the interpretation
of the heartbeat's opcode is that list, by name (the 18 names are in no source, log entry 13). -/
def Obligations.HeartbeatListsTheSetConditionsInTableOrder : Prop :=
  (∀ (a : Operand) (k : Fin 18), k ∈ heartbeatBits a ↔ a.getLsbD k = true) ∧
    heartbeatBits 0x3FFFF = List.finRange 18 ∧ (∀ a : Operand, (heartbeatBits a).Pairwise (· < ·)) ∧
      (∀ a b : Operand, (heartbeatBits a).Sublist (heartbeatBits (a ||| b))) ∧
        (∀ a b : Operand, a &&& 0x3FFFF = b &&& 0x3FFFF → heartbeatBits a = heartbeatBits b) ∧
          heartbeatBits 0 = [] ∧
            ∀ (c : OpCode) (a : Operand), c.val = 0 →
              interpret c a = .conditions ((heartbeatBits a).map Config.conditionName)

/-- 45_host_contract.md R181, R187: the host's `submit` of a registered opcode reports an error exactly when the block has
faulted, and otherwise returns the submitted opcode, which is the answered one, with the interpreted operand of the response
read. -/
def Obligations.HostSubmitReturnsTheAnsweredOpcode : Prop :=
  ∀ (op : OpCode) (opd : Operand) (s : State),
    match hostSubmit op opd s with
    | .done c r t =>
      c = op ∧ t.ackOp = op.val ∧ t.fault = .none ∧ t.rspv = true ∧ r = interpret op (responseOperand t.rxf) ∧
        exec (.submit op.val opd) s = .next t
    | .failed c t => c = t.fault ∧ t.fault ≠ .none ∧ exec (.submit op.val opd) s = .next t
    | .nothing => ∀ t, exec (.submit op.val opd) s ≠ .next t

/-- 45_host_contract.md R170, R171: every registered code names one board operation, and no two name the same; 0 names the
heartbeat and 1 the TEC temperature; every operation the source names has a code, unless the registry holds fewer codes than
there are named operations. Which code an operation has is the model's free choice (log entry 13). -/
def Obligations.EachRegisteredCodeNamesOneOperation : Prop :=
  (∀ c d : OpCode, operationOf c = operationOf d → c = d) ∧
    (∀ c : OpCode, (c.val = 0 → operationOf c = .heartbeat) ∧ (c.val = 1 → operationOf c = .tecTemperature)) ∧
      (∀ c : OpCode, operationCode (operationOf c) = some c) ∧
        (∀ (o : Operation) (c : OpCode), operationCode o = some c →
          operationOf c = o ∨ (o = .getTemperature ∧ operationOf c = .tecTemperature)) ∧
          ((∀ o : Operation, (∀ b, o ≠ .other b) → (operationCode o).isSome = true) ∨
            heldCodes.length < namedOperations.length)

/-- 30_encoding.md R81 fixes the first byte of a request frame: a pattern presented as one that does not begin with 0xAA is
refused by name, in every state (log entry 18). -/
def Obligations.ARequestPatternWithoutTheSyncByteIsRefused : Prop :=
  ∀ (p : BitVec 64) (s : State) (rest : List Input), p.extractLsb' 56 8 ≠ 0xAA →
    s.inputs = .present (.frame .request p) :: rest → step s = .refused (.notARequestFrame (p.extractLsb' 56 8))
end

