-- ==== Sys2Proof/Laws/Operands.lean ====
section
/-! SUPPORT. The small lemmas of the CRC functions and of the frame fields. -/

namespace Sys2Proof.Machine

theorem crc16_nil : crc16 [] = 0 := rfl

/-- Absorbing one more byte at the end (40_crc.md R113). -/
theorem crc16_concat (bs : List Byte) (b : Byte) : crc16 (bs ++ [b]) = crcByte (crc16 bs) b := by
  simp [crc16]

@[simp] theorem crcRound_zero : crcRound 0 = 0 := by decide

/-- The round of a difference is the difference of the rounds (40_crc.md R111, R119 item 3). -/
theorem crcRound_xor (a b : Crc) : crcRound (a ^^^ b) = crcRound a ^^^ crcRound b := by
  have h : (a ^^^ b) <<< 1 = a <<< 1 ^^^ b <<< 1 := BitVec.shiftLeft_xor_distrib a b 1
  simp only [crcRound, BitVec.msb_xor, h]
  generalize Config.crcPoly = p
  generalize a <<< 1 = x
  generalize b <<< 1 = y
  cases a.msb <;> cases b.msb <;> simp
  · exact BitVec.xor_assoc x y p
  · rw [BitVec.xor_assoc, BitVec.xor_comm y p, ← BitVec.xor_assoc]
  · rw [BitVec.xor_assoc x p, BitVec.xor_comm p (y ^^^ p), BitVec.xor_assoc y p p, BitVec.xor_self, BitVec.xor_zero]

theorem crcRounds_xor (n : Nat) (a b : Crc) : crcRounds n (a ^^^ b) = crcRounds n a ^^^ crcRounds n b := by
  induction n generalizing a b with
  | zero => rfl
  | succ n ih => simp only [crcRounds, crcRound_xor, ih]

/-- No information is lost in a round: with bit 15 set the result has bit 0 set, without it the shift loses a 0
(40_crc.md R111). -/
theorem crcRound_eq_zero {a : Crc} (h : crcRound a = 0) : a = 0 := by
  unfold crcRound at h
  split at h
  · have := congrArg (fun v : Crc => v.getLsbD 0) h
    simp [Config.crcPoly] at this
  · rename_i hm
    simp only [BitVec.msb_eq_decide, decide_eq_true_eq, not_le] at hm
    bv_omega

theorem crcRounds_eq_zero {n : Nat} {a : Crc} (h : crcRounds n a = 0) : a = 0 := by
  induction n generalizing a with
  | zero => exact h
  | succ n ih => exact crcRound_eq_zero (ih h)

@[simp] theorem patternToFrame_frameToPattern (F : Frame) : patternToFrame (frameToPattern F) = F := by
  rcases F with ⟨a, b, c, d, e, f, g, h⟩
  simp only [patternToFrame, frameToPattern, Frame.mk.injEq]
  refine ⟨?_, ?_, ?_, ?_, ?_, ?_, ?_, ?_⟩ <;> ext i hi <;>
    simp [BitVec.getElem_extractLsb'] <;> grind

@[simp] theorem frameToPattern_patternToFrame (p : BitVec 64) : frameToPattern (patternToFrame p) = p := by
  ext i hi
  simp [frameToPattern, patternToFrame]
  grind

@[simp] theorem requestOperand_requestFrame (sync op : Byte) (opd : Operand) (crc : Crc) :
    requestOperand (requestFrame sync op opd crc) = opd := by
  ext i hi
  simp [requestOperand, requestFrame]
  grind

@[simp] theorem crcField_requestFrame (sync op : Byte) (opd : Operand) (crc : Crc) :
    crcField (requestFrame sync op opd crc) = crc := by
  ext i hi
  simp [crcField, requestFrame]
  grind

@[simp] theorem responseOperand_responseFrame (sync rop : Byte) (opd : Operand) (crc : Crc) :
    responseOperand (responseFrame sync rop opd crc) = opd := by
  ext i hi
  simp [responseOperand, responseFrame]
  grind

@[simp] theorem crcField_responseFrame (sync rop : Byte) (opd : Operand) (crc : Crc) :
    crcField (responseFrame sync rop opd crc) = crc := by
  ext i hi
  simp [crcField, responseFrame]
  grind

/-- A request frame's CRC does not depend on what stands in its CRC field. -/
theorem frameCrc_requestFrame (op : Byte) (opd : Operand) (crc : Crc) :
    frameCrc (requestFrame Config.sync op opd crc) = requestCrc op opd := rfl

@[simp] theorem crcField_encodeRequest (op : Byte) (opd : Operand) :
    crcField (encodeRequest op opd) = requestCrc op opd := by
  simp [encodeRequest]

@[simp] theorem frameCrc_encodeRequest (op : Byte) (opd : Operand) :
    frameCrc (encodeRequest op opd) = requestCrc op opd := rfl

@[simp] theorem encodeRequest_f1 (op : Byte) (opd : Operand) : (encodeRequest op opd).f1 = op := rfl

@[simp] theorem requestOperand_encodeRequest (op : Byte) (opd : Operand) :
    requestOperand (encodeRequest op opd) = opd := by
  simp [encodeRequest]

end Sys2Proof.Machine
end

