-- ==== Sys2Proof/Laws/State.lean ====
section
/-! SUPPORT. What each register update leaves in each field of the state: one lemma per field per update, true by `rfl`, so
that no later proof unfolds an update. -/

namespace Sys2Proof.Machine

@[simp] theorem raiseFault_crc (c : FaultCode) (s : State) : (raiseFault c s).crc = s.crc := rfl
@[simp] theorem raiseFault_txf (c : FaultCode) (s : State) : (raiseFault c s).txf = s.txf := rfl
@[simp] theorem raiseFault_txv (c : FaultCode) (s : State) : (raiseFault c s).txv = s.txv := rfl
@[simp] theorem raiseFault_reqOp (c : FaultCode) (s : State) : (raiseFault c s).reqOp = s.reqOp := rfl
@[simp] theorem raiseFault_reqPend (c : FaultCode) (s : State) : (raiseFault c s).reqPend = s.reqPend := rfl
@[simp] theorem raiseFault_rxf (c : FaultCode) (s : State) : (raiseFault c s).rxf = s.rxf := rfl
@[simp] theorem raiseFault_rxv (c : FaultCode) (s : State) : (raiseFault c s).rxv = s.rxv := rfl
@[simp] theorem raiseFault_rspOp (c : FaultCode) (s : State) : (raiseFault c s).rspOp = s.rspOp := rfl
@[simp] theorem raiseFault_rspOpd (c : FaultCode) (s : State) : (raiseFault c s).rspOpd = s.rspOpd := rfl
@[simp] theorem raiseFault_rspCrc (c : FaultCode) (s : State) : (raiseFault c s).rspCrc = s.rspCrc := rfl
@[simp] theorem raiseFault_decv (c : FaultCode) (s : State) : (raiseFault c s).decv = s.decv := rfl
@[simp] theorem raiseFault_ackOp (c : FaultCode) (s : State) : (raiseFault c s).ackOp = s.ackOp := rfl
@[simp] theorem raiseFault_rspv (c : FaultCode) (s : State) : (raiseFault c s).rspv = s.rspv := rfl
@[simp] theorem raiseFault_fault (c : FaultCode) (s : State) : (raiseFault c s).fault = c := rfl
@[simp] theorem raiseFault_xdir (c : FaultCode) (s : State) : (raiseFault c s).xdir = s.xdir := rfl
@[simp] theorem raiseFault_link (c : FaultCode) (s : State) : (raiseFault c s).link = s.link := rfl
@[simp] theorem raiseFault_inputs (c : FaultCode) (s : State) : (raiseFault c s).inputs = s.inputs := rfl
@[simp] theorem raiseFault_draws (c : FaultCode) (s : State) : (raiseFault c s).draws = s.draws := rfl

@[simp] theorem resetBlock_crc (s : State) : (resetBlock s).crc = 0 := rfl
@[simp] theorem resetBlock_txf (s : State) : (resetBlock s).txf = Config.noTxf s.draws := rfl
@[simp] theorem resetBlock_txv (s : State) : (resetBlock s).txv = false := rfl
@[simp] theorem resetBlock_reqOp (s : State) : (resetBlock s).reqOp = Config.noReqOp s.draws := rfl
@[simp] theorem resetBlock_reqPend (s : State) : (resetBlock s).reqPend = false := rfl
@[simp] theorem resetBlock_rxf (s : State) : (resetBlock s).rxf = Config.noRxf s.draws := rfl
@[simp] theorem resetBlock_rxv (s : State) : (resetBlock s).rxv = false := rfl
@[simp] theorem resetBlock_rspOp (s : State) : (resetBlock s).rspOp = Config.noRspOp s.draws := rfl
@[simp] theorem resetBlock_rspOpd (s : State) : (resetBlock s).rspOpd = Config.noRspOpd s.draws := rfl
@[simp] theorem resetBlock_rspCrc (s : State) : (resetBlock s).rspCrc = Config.noRspCrc s.draws := rfl
@[simp] theorem resetBlock_decv (s : State) : (resetBlock s).decv = false := rfl
@[simp] theorem resetBlock_ackOp (s : State) : (resetBlock s).ackOp = Config.noAckOp s.draws := rfl
@[simp] theorem resetBlock_rspv (s : State) : (resetBlock s).rspv = false := rfl
@[simp] theorem resetBlock_fault (s : State) : (resetBlock s).fault = .none := rfl
@[simp] theorem resetBlock_xdir (s : State) : (resetBlock s).xdir = .write := rfl
@[simp] theorem resetBlock_link (s : State) : (resetBlock s).link = s.link := rfl
@[simp] theorem resetBlock_inputs (s : State) : (resetBlock s).inputs = s.inputs := rfl
@[simp] theorem resetBlock_draws (s : State) : (resetBlock s).draws = s.draws + 1 := rfl

@[simp] theorem latchRequest_crc (op : Byte) (opd : Operand) (s : State) : (latchRequest op opd s).crc = crcField (encodeRequest op opd) := rfl
@[simp] theorem latchRequest_txf (op : Byte) (opd : Operand) (s : State) : (latchRequest op opd s).txf = encodeRequest op opd := rfl
@[simp] theorem latchRequest_txv (op : Byte) (opd : Operand) (s : State) : (latchRequest op opd s).txv = true := rfl
@[simp] theorem latchRequest_reqOp (op : Byte) (opd : Operand) (s : State) : (latchRequest op opd s).reqOp = op := rfl
@[simp] theorem latchRequest_reqPend (op : Byte) (opd : Operand) (s : State) : (latchRequest op opd s).reqPend = s.reqPend := rfl
@[simp] theorem latchRequest_rxf (op : Byte) (opd : Operand) (s : State) : (latchRequest op opd s).rxf = s.rxf := rfl
@[simp] theorem latchRequest_rxv (op : Byte) (opd : Operand) (s : State) : (latchRequest op opd s).rxv = s.rxv := rfl
@[simp] theorem latchRequest_rspOp (op : Byte) (opd : Operand) (s : State) : (latchRequest op opd s).rspOp = s.rspOp := rfl
@[simp] theorem latchRequest_rspOpd (op : Byte) (opd : Operand) (s : State) : (latchRequest op opd s).rspOpd = s.rspOpd := rfl
@[simp] theorem latchRequest_rspCrc (op : Byte) (opd : Operand) (s : State) : (latchRequest op opd s).rspCrc = s.rspCrc := rfl
@[simp] theorem latchRequest_decv (op : Byte) (opd : Operand) (s : State) : (latchRequest op opd s).decv = s.decv := rfl
@[simp] theorem latchRequest_ackOp (op : Byte) (opd : Operand) (s : State) : (latchRequest op opd s).ackOp = s.ackOp := rfl
@[simp] theorem latchRequest_rspv (op : Byte) (opd : Operand) (s : State) : (latchRequest op opd s).rspv = s.rspv := rfl
@[simp] theorem latchRequest_fault (op : Byte) (opd : Operand) (s : State) : (latchRequest op opd s).fault = s.fault := rfl
@[simp] theorem latchRequest_xdir (op : Byte) (opd : Operand) (s : State) : (latchRequest op opd s).xdir = s.xdir := rfl
@[simp] theorem latchRequest_link (op : Byte) (opd : Operand) (s : State) : (latchRequest op opd s).link = s.link := rfl
@[simp] theorem latchRequest_inputs (op : Byte) (opd : Operand) (s : State) : (latchRequest op opd s).inputs = s.inputs := rfl
@[simp] theorem latchRequest_draws (op : Byte) (opd : Operand) (s : State) : (latchRequest op opd s).draws = s.draws := rfl

@[simp] theorem markSent_crc (s : State) : (markSent s).crc = s.crc := rfl
@[simp] theorem markSent_txf (s : State) : (markSent s).txf = s.txf := rfl
@[simp] theorem markSent_txv (s : State) : (markSent s).txv = false := rfl
@[simp] theorem markSent_reqOp (s : State) : (markSent s).reqOp = s.reqOp := rfl
@[simp] theorem markSent_reqPend (s : State) : (markSent s).reqPend = true := rfl
@[simp] theorem markSent_rxf (s : State) : (markSent s).rxf = s.rxf := rfl
@[simp] theorem markSent_rxv (s : State) : (markSent s).rxv = false := rfl
@[simp] theorem markSent_rspOp (s : State) : (markSent s).rspOp = s.rspOp := rfl
@[simp] theorem markSent_rspOpd (s : State) : (markSent s).rspOpd = s.rspOpd := rfl
@[simp] theorem markSent_rspCrc (s : State) : (markSent s).rspCrc = s.rspCrc := rfl
@[simp] theorem markSent_decv (s : State) : (markSent s).decv = false := rfl
@[simp] theorem markSent_ackOp (s : State) : (markSent s).ackOp = s.ackOp := rfl
@[simp] theorem markSent_rspv (s : State) : (markSent s).rspv = false := rfl
@[simp] theorem markSent_fault (s : State) : (markSent s).fault = s.fault := rfl
@[simp] theorem markSent_xdir (s : State) : (markSent s).xdir = s.xdir := rfl
@[simp] theorem markSent_link (s : State) : (markSent s).link = afterWrite s.link (frameBytes s.txf) := rfl
@[simp] theorem markSent_inputs (s : State) : (markSent s).inputs = s.inputs := rfl
@[simp] theorem markSent_draws (s : State) : (markSent s).draws = s.draws := rfl

@[simp] theorem failWrite_crc (s : State) : (failWrite s).crc = s.crc := rfl
@[simp] theorem failWrite_txf (s : State) : (failWrite s).txf = s.txf := rfl
@[simp] theorem failWrite_txv (s : State) : (failWrite s).txv = s.txv := rfl
@[simp] theorem failWrite_reqOp (s : State) : (failWrite s).reqOp = s.reqOp := rfl
@[simp] theorem failWrite_reqPend (s : State) : (failWrite s).reqPend = s.reqPend := rfl
@[simp] theorem failWrite_rxf (s : State) : (failWrite s).rxf = s.rxf := rfl
@[simp] theorem failWrite_rxv (s : State) : (failWrite s).rxv = s.rxv := rfl
@[simp] theorem failWrite_rspOp (s : State) : (failWrite s).rspOp = s.rspOp := rfl
@[simp] theorem failWrite_rspOpd (s : State) : (failWrite s).rspOpd = s.rspOpd := rfl
@[simp] theorem failWrite_rspCrc (s : State) : (failWrite s).rspCrc = s.rspCrc := rfl
@[simp] theorem failWrite_decv (s : State) : (failWrite s).decv = s.decv := rfl
@[simp] theorem failWrite_ackOp (s : State) : (failWrite s).ackOp = s.ackOp := rfl
@[simp] theorem failWrite_rspv (s : State) : (failWrite s).rspv = s.rspv := rfl
@[simp] theorem failWrite_fault (s : State) : (failWrite s).fault = .transportError := rfl
@[simp] theorem failWrite_xdir (s : State) : (failWrite s).xdir = .write := rfl
@[simp] theorem failWrite_link (s : State) : (failWrite s).link = afterWrite s.link (frameBytes s.txf) := rfl
@[simp] theorem failWrite_inputs (s : State) : (failWrite s).inputs = s.inputs := rfl
@[simp] theorem failWrite_draws (s : State) : (failWrite s).draws = s.draws := rfl

@[simp] theorem storeResponse_crc (F : Frame) (s : State) : (storeResponse F s).crc = s.crc := rfl
@[simp] theorem storeResponse_txf (F : Frame) (s : State) : (storeResponse F s).txf = s.txf := rfl
@[simp] theorem storeResponse_txv (F : Frame) (s : State) : (storeResponse F s).txv = s.txv := rfl
@[simp] theorem storeResponse_reqOp (F : Frame) (s : State) : (storeResponse F s).reqOp = s.reqOp := rfl
@[simp] theorem storeResponse_reqPend (F : Frame) (s : State) : (storeResponse F s).reqPend = s.reqPend := rfl
@[simp] theorem storeResponse_rxf (F : Frame) (s : State) : (storeResponse F s).rxf = F := rfl
@[simp] theorem storeResponse_rxv (F : Frame) (s : State) : (storeResponse F s).rxv = true := rfl
@[simp] theorem storeResponse_rspOp (F : Frame) (s : State) : (storeResponse F s).rspOp = s.rspOp := rfl
@[simp] theorem storeResponse_rspOpd (F : Frame) (s : State) : (storeResponse F s).rspOpd = s.rspOpd := rfl
@[simp] theorem storeResponse_rspCrc (F : Frame) (s : State) : (storeResponse F s).rspCrc = s.rspCrc := rfl
@[simp] theorem storeResponse_decv (F : Frame) (s : State) : (storeResponse F s).decv = s.decv := rfl
@[simp] theorem storeResponse_ackOp (F : Frame) (s : State) : (storeResponse F s).ackOp = s.ackOp := rfl
@[simp] theorem storeResponse_rspv (F : Frame) (s : State) : (storeResponse F s).rspv = s.rspv := rfl
@[simp] theorem storeResponse_fault (F : Frame) (s : State) : (storeResponse F s).fault = s.fault := rfl
@[simp] theorem storeResponse_xdir (F : Frame) (s : State) : (storeResponse F s).xdir = s.xdir := rfl
@[simp] theorem storeResponse_link (F : Frame) (s : State) : (storeResponse F s).link = afterRead s.link := rfl
@[simp] theorem storeResponse_inputs (F : Frame) (s : State) : (storeResponse F s).inputs = s.inputs := rfl
@[simp] theorem storeResponse_draws (F : Frame) (s : State) : (storeResponse F s).draws = s.draws := rfl

@[simp] theorem failRead_crc (s : State) : (failRead s).crc = s.crc := rfl
@[simp] theorem failRead_txf (s : State) : (failRead s).txf = s.txf := rfl
@[simp] theorem failRead_txv (s : State) : (failRead s).txv = s.txv := rfl
@[simp] theorem failRead_reqOp (s : State) : (failRead s).reqOp = s.reqOp := rfl
@[simp] theorem failRead_reqPend (s : State) : (failRead s).reqPend = s.reqPend := rfl
@[simp] theorem failRead_rxf (s : State) : (failRead s).rxf = Config.noRxf s.draws := rfl
@[simp] theorem failRead_rxv (s : State) : (failRead s).rxv = s.rxv := rfl
@[simp] theorem failRead_rspOp (s : State) : (failRead s).rspOp = s.rspOp := rfl
@[simp] theorem failRead_rspOpd (s : State) : (failRead s).rspOpd = s.rspOpd := rfl
@[simp] theorem failRead_rspCrc (s : State) : (failRead s).rspCrc = s.rspCrc := rfl
@[simp] theorem failRead_decv (s : State) : (failRead s).decv = s.decv := rfl
@[simp] theorem failRead_ackOp (s : State) : (failRead s).ackOp = s.ackOp := rfl
@[simp] theorem failRead_rspv (s : State) : (failRead s).rspv = s.rspv := rfl
@[simp] theorem failRead_fault (s : State) : (failRead s).fault = .transportError := rfl
@[simp] theorem failRead_xdir (s : State) : (failRead s).xdir = .read := rfl
@[simp] theorem failRead_link (s : State) : (failRead s).link = afterRead s.link := rfl
@[simp] theorem failRead_inputs (s : State) : (failRead s).inputs = s.inputs := rfl
@[simp] theorem failRead_draws (s : State) : (failRead s).draws = s.draws + 1 := rfl

@[simp] theorem latchResponse_crc (s : State) : (latchResponse s).crc = frameCrc s.rxf := rfl
@[simp] theorem latchResponse_txf (s : State) : (latchResponse s).txf = s.txf := rfl
@[simp] theorem latchResponse_txv (s : State) : (latchResponse s).txv = s.txv := rfl
@[simp] theorem latchResponse_reqOp (s : State) : (latchResponse s).reqOp = s.reqOp := rfl
@[simp] theorem latchResponse_reqPend (s : State) : (latchResponse s).reqPend = s.reqPend := rfl
@[simp] theorem latchResponse_rxf (s : State) : (latchResponse s).rxf = s.rxf := rfl
@[simp] theorem latchResponse_rxv (s : State) : (latchResponse s).rxv = s.rxv := rfl
@[simp] theorem latchResponse_rspOp (s : State) : (latchResponse s).rspOp = s.rxf.f1 := rfl
@[simp] theorem latchResponse_rspOpd (s : State) : (latchResponse s).rspOpd = responseOperand s.rxf := rfl
@[simp] theorem latchResponse_rspCrc (s : State) : (latchResponse s).rspCrc = crcField s.rxf := rfl
@[simp] theorem latchResponse_decv (s : State) : (latchResponse s).decv = s.decv := rfl
@[simp] theorem latchResponse_ackOp (s : State) : (latchResponse s).ackOp = s.ackOp := rfl
@[simp] theorem latchResponse_rspv (s : State) : (latchResponse s).rspv = s.rspv := rfl
@[simp] theorem latchResponse_fault (s : State) : (latchResponse s).fault = s.fault := rfl
@[simp] theorem latchResponse_xdir (s : State) : (latchResponse s).xdir = s.xdir := rfl
@[simp] theorem latchResponse_link (s : State) : (latchResponse s).link = s.link := rfl
@[simp] theorem latchResponse_inputs (s : State) : (latchResponse s).inputs = s.inputs := rfl
@[simp] theorem latchResponse_draws (s : State) : (latchResponse s).draws = s.draws := rfl

@[simp] theorem latchAck_crc (s : State) : (latchAck s).crc = s.crc := rfl
@[simp] theorem latchAck_txf (s : State) : (latchAck s).txf = s.txf := rfl
@[simp] theorem latchAck_txv (s : State) : (latchAck s).txv = s.txv := rfl
@[simp] theorem latchAck_reqOp (s : State) : (latchAck s).reqOp = s.reqOp := rfl
@[simp] theorem latchAck_reqPend (s : State) : (latchAck s).reqPend = s.reqPend := rfl
@[simp] theorem latchAck_rxf (s : State) : (latchAck s).rxf = s.rxf := rfl
@[simp] theorem latchAck_rxv (s : State) : (latchAck s).rxv = s.rxv := rfl
@[simp] theorem latchAck_rspOp (s : State) : (latchAck s).rspOp = s.rspOp := rfl
@[simp] theorem latchAck_rspOpd (s : State) : (latchAck s).rspOpd = s.rspOpd := rfl
@[simp] theorem latchAck_rspCrc (s : State) : (latchAck s).rspCrc = s.rspCrc := rfl
@[simp] theorem latchAck_decv (s : State) : (latchAck s).decv = s.decv := rfl
@[simp] theorem latchAck_ackOp (s : State) : (latchAck s).ackOp = s.rspOp - Config.ackOffset := rfl
@[simp] theorem latchAck_rspv (s : State) : (latchAck s).rspv = s.rspv := rfl
@[simp] theorem latchAck_fault (s : State) : (latchAck s).fault = s.fault := rfl
@[simp] theorem latchAck_xdir (s : State) : (latchAck s).xdir = s.xdir := rfl
@[simp] theorem latchAck_link (s : State) : (latchAck s).link = s.link := rfl
@[simp] theorem latchAck_inputs (s : State) : (latchAck s).inputs = s.inputs := rfl
@[simp] theorem latchAck_draws (s : State) : (latchAck s).draws = s.draws := rfl

@[simp] theorem markDecoded_crc (s : State) : (markDecoded s).crc = s.crc := rfl
@[simp] theorem markDecoded_txf (s : State) : (markDecoded s).txf = s.txf := rfl
@[simp] theorem markDecoded_txv (s : State) : (markDecoded s).txv = s.txv := rfl
@[simp] theorem markDecoded_reqOp (s : State) : (markDecoded s).reqOp = s.reqOp := rfl
@[simp] theorem markDecoded_reqPend (s : State) : (markDecoded s).reqPend = s.reqPend := rfl
@[simp] theorem markDecoded_rxf (s : State) : (markDecoded s).rxf = s.rxf := rfl
@[simp] theorem markDecoded_rxv (s : State) : (markDecoded s).rxv = s.rxv := rfl
@[simp] theorem markDecoded_rspOp (s : State) : (markDecoded s).rspOp = s.rspOp := rfl
@[simp] theorem markDecoded_rspOpd (s : State) : (markDecoded s).rspOpd = s.rspOpd := rfl
@[simp] theorem markDecoded_rspCrc (s : State) : (markDecoded s).rspCrc = s.rspCrc := rfl
@[simp] theorem markDecoded_decv (s : State) : (markDecoded s).decv = true := rfl
@[simp] theorem markDecoded_ackOp (s : State) : (markDecoded s).ackOp = s.ackOp := rfl
@[simp] theorem markDecoded_rspv (s : State) : (markDecoded s).rspv = s.rspv := rfl
@[simp] theorem markDecoded_fault (s : State) : (markDecoded s).fault = s.fault := rfl
@[simp] theorem markDecoded_xdir (s : State) : (markDecoded s).xdir = s.xdir := rfl
@[simp] theorem markDecoded_link (s : State) : (markDecoded s).link = s.link := rfl
@[simp] theorem markDecoded_inputs (s : State) : (markDecoded s).inputs = s.inputs := rfl
@[simp] theorem markDecoded_draws (s : State) : (markDecoded s).draws = s.draws := rfl

@[simp] theorem acceptResponse_crc (s : State) : (acceptResponse s).crc = s.crc := rfl
@[simp] theorem acceptResponse_txf (s : State) : (acceptResponse s).txf = s.txf := rfl
@[simp] theorem acceptResponse_txv (s : State) : (acceptResponse s).txv = s.txv := rfl
@[simp] theorem acceptResponse_reqOp (s : State) : (acceptResponse s).reqOp = s.reqOp := rfl
@[simp] theorem acceptResponse_reqPend (s : State) : (acceptResponse s).reqPend = false := rfl
@[simp] theorem acceptResponse_rxf (s : State) : (acceptResponse s).rxf = s.rxf := rfl
@[simp] theorem acceptResponse_rxv (s : State) : (acceptResponse s).rxv = s.rxv := rfl
@[simp] theorem acceptResponse_rspOp (s : State) : (acceptResponse s).rspOp = s.rspOp := rfl
@[simp] theorem acceptResponse_rspOpd (s : State) : (acceptResponse s).rspOpd = s.rspOpd := rfl
@[simp] theorem acceptResponse_rspCrc (s : State) : (acceptResponse s).rspCrc = s.rspCrc := rfl
@[simp] theorem acceptResponse_decv (s : State) : (acceptResponse s).decv = s.decv := rfl
@[simp] theorem acceptResponse_ackOp (s : State) : (acceptResponse s).ackOp = s.ackOp := rfl
@[simp] theorem acceptResponse_rspv (s : State) : (acceptResponse s).rspv = true := rfl
@[simp] theorem acceptResponse_fault (s : State) : (acceptResponse s).fault = s.fault := rfl
@[simp] theorem acceptResponse_xdir (s : State) : (acceptResponse s).xdir = s.xdir := rfl
@[simp] theorem acceptResponse_link (s : State) : (acceptResponse s).link = s.link := rfl
@[simp] theorem acceptResponse_inputs (s : State) : (acceptResponse s).inputs = s.inputs := rfl
@[simp] theorem acceptResponse_draws (s : State) : (acceptResponse s).draws = s.draws := rfl

@[simp] theorem afterWrite_txs (t : Transport) (bs : List Byte) : (afterWrite t bs).txs = t.txs ++ bs.take (bytesSent (nextWriteAnswer t)) := rfl
@[simp] theorem afterWrite_writeScript (t : Transport) (bs : List Byte) : (afterWrite t bs).writeScript = t.writeScript.tail := rfl
@[simp] theorem afterWrite_readScript (t : Transport) (bs : List Byte) : (afterWrite t bs).readScript = t.readScript := rfl
@[simp] theorem afterWrite_answers (t : Transport) (bs : List Byte) : (afterWrite t bs).answers = t.answers ++ [.write (nextWriteAnswer t)] := rfl

@[simp] theorem afterRead_txs (t : Transport) : (afterRead t).txs = t.txs := rfl
@[simp] theorem afterRead_writeScript (t : Transport) : (afterRead t).writeScript = t.writeScript := rfl
@[simp] theorem afterRead_readScript (t : Transport) : (afterRead t).readScript = t.readScript.tail := rfl
@[simp] theorem afterRead_answers (t : Transport) : (afterRead t).answers = t.answers ++ [.read (nextReadAnswer t)] := rfl

@[simp] theorem deliverFrame_txs (F : Frame) (t : Transport) : (deliverFrame F t).txs = t.txs := rfl
@[simp] theorem deliverFrame_writeScript (F : Frame) (t : Transport) : (deliverFrame F t).writeScript = t.writeScript := rfl
@[simp] theorem deliverFrame_readScript (F : Frame) (t : Transport) : (deliverFrame F t).readScript = t.readScript ++ [.ok F] := rfl
@[simp] theorem deliverFrame_answers (F : Frame) (t : Transport) : (deliverFrame F t).answers = t.answers := rfl

end Sys2Proof.Machine
end

