-- ==== Sys2Proof/Laws/Ops.lean ====
section
/-! SUPPORT. One lemma per shared operation that says all it can do; proofs about the commands cite these and unfold no
operation. -/

namespace Sys2Proof.Machine

/-! ### Outcomes -/

@[simp] theorem guarded_eq_next (m : Bool) (o : Out) (t : State) :
    guarded m o = .next t ↔ m = true ∧ o = .next t := by
  cases m <;> simp [guarded]

@[simp] theorem guarded_eq_fault (m : Bool) (o : Out) (f : Fault) :
    guarded m o = .fault f ↔ m = true ∧ o = .fault f := by
  cases m <;> simp [guarded]

/-- A guarded command whose own outcome is no refusal is refused exactly where its precondition fails. -/
theorem guarded_refused {o : Out} (h : ∀ r, o ≠ .refused r) (m : Bool) (r : Refusal) :
    guarded m o = .refused r ↔ m = false ∧ r = .preconditionFails := by
  cases m <;> simp [guarded, h, eq_comm]

theorem guarded_true (o : Out) : guarded true o = o := rfl

theorem guarded_false (o : Out) : guarded false o = .refused .preconditionFails := rfl

theorem isHalted_false {s : State} : isHalted s = false ↔ s.fault = .none := by
  simp [isHalted]

theorem isHalted_true {s : State} : isHalted s = true ↔ s.fault ≠ .none := by
  simp [isHalted]

/-- A sequence goes on exactly from a next state without a fault. -/
theorem thenUnlessFault_eq_next (o : Out) (k : State → Out) (t : State) :
    thenUnlessFault o k = .next t ↔
      ∃ s, o = .next s ∧ ((s.fault ≠ .none ∧ t = s) ∨ (s.fault = .none ∧ k s = .next t)) := by
  rcases o with s | f | r
  · by_cases h : s.fault = .none <;> simp [thenUnlessFault, isHalted, h, eq_comm (a := t)]
  · simp [thenUnlessFault]
  · simp [thenUnlessFault]

theorem thenUnlessFault_next {s : State} (h : s.fault = .none) (k : State → Out) :
    thenUnlessFault (.next s) k = k s := by
  simp [thenUnlessFault, isHalted, h]

theorem thenUnlessFault_halted {s : State} (h : s.fault ≠ .none) (k : State → Out) :
    thenUnlessFault (.next s) k = .next s := by
  simp [thenUnlessFault, isHalted, h]

/-- What `abandonIfReset` can answer with a next state: the command's own, or the block reset out of a blocked command. -/
theorem abandonIfReset_eq_next (s : State) (o : Out) (t : State) :
    abandonIfReset s o = .next t ↔
      o = .next t ∨
        ∃ dir l rest, o = .fault (.transportBlocked dir l) ∧ s.inputs = .rst :: rest ∧
          t = resetBlock { s with link := l, inputs := rest } := by
  rcases o with u | ⟨dir, l⟩ | r
  · simp [abandonIfReset]
  · rcases hs : s.inputs with _ | ⟨_ | p, rest⟩ <;> simp [abandonIfReset, hs, eq_comm (a := t)]
  · simp [abandonIfReset]

/-! ### The transport -/

/-- With `rst` next no timeout ends a wait (70_reset_and_hazards.md R230). -/
theorem timesOut_reset {s : State} {rest : List Input} (h : s.inputs = .rst :: rest) : timesOut s = false := by
  simp [timesOut, h]

/-- Where `rst` does not come next, the configured timeout decides (20_memory.md R67). -/
theorem timesOut_no_reset {s : State} (h : ∀ rest, s.inputs ≠ .rst :: rest) : timesOut s = Config.xportTimeout := by
  rcases hs : s.inputs with _ | ⟨_ | p, rest⟩
  · simp [timesOut, hs]
  · exact absurd hs (h rest)
  · simp [timesOut, hs]

/-- The wait depends on the state only through what comes next. -/
theorem timesOut_congr {s t : State} (h : t.inputs = s.inputs) : timesOut t = timesOut s := by
  simp [timesOut, h]

/-- All `TX.SEND` can do past its precondition (41_frame_encode.md R133). -/
theorem sendRequest_eq_next (s t : State) :
    sendRequest s = .next t ↔
      (nextWriteAnswer s.link = .ok ∧ t = markSent s) ∨
        ((∃ k, nextWriteAnswer s.link = .fail k) ∧ t = failWrite s) ∨
          ((∃ k, nextWriteAnswer s.link = .silent k) ∧ timesOut s = true ∧ t = failWrite s) := by
  unfold sendRequest
  rcases nextWriteAnswer s.link with _ | k | k
  · simp [eq_comm (a := t)]
  · simp [eq_comm (a := t)]
  · cases h : timesOut s <;> simp [eq_comm (a := t)]

/-- All `RX.LOAD` can do past its precondition (42_frame_decode.md R141). -/
theorem loadResponse_eq_next (s t : State) :
    loadResponse s = .next t ↔
      (∃ F, nextReadAnswer s.link = .ok F ∧ t = storeResponse F s) ∨
        ((∃ k, nextReadAnswer s.link = .fail k) ∧ t = failRead s) ∨
          ((∃ k, nextReadAnswer s.link = .silent k) ∧ timesOut s = true ∧ t = failRead s) := by
  unfold loadResponse
  rcases nextReadAnswer s.link with F | k | k
  · simp [eq_comm (a := t)]
  · simp [eq_comm (a := t)]
  · cases h : timesOut s <;> simp [eq_comm (a := t)]

theorem sendRequest_not_refused (s : State) (r : Refusal) : sendRequest s ≠ .refused r := by
  unfold sendRequest
  split <;> try split
  all_goals simp

theorem loadResponse_not_refused (s : State) (r : Refusal) : loadResponse s ≠ .refused r := by
  unfold loadResponse
  split <;> try split
  all_goals simp

/-- `TXS` only grows (10_state.md R35). -/
theorem afterWrite_prefix (t : Transport) (bs : List Byte) : t.txs <+: (afterWrite t bs).txs := by
  simp

/-! ### Decoding and validating -/

/-- Both ends of `DEC.RSP` (42_frame_decode.md R144). -/
theorem checkResponse_cases (s : State) :
    (frameCrc s.rxf = crcField s.rxf ∧ checkResponse s = markDecoded (latchResponse s)) ∨
      (frameCrc s.rxf ≠ crcField s.rxf ∧ checkResponse s = raiseFault .checksumMismatch (latchResponse s)) := by
  by_cases h : frameCrc s.rxf = crcField s.rxf <;> simp [checkResponse, h]

/-- The three ends of `VAL.RSP` (43_validate_and_cycle.md R152). -/
theorem validateResponse_cases (s : State) :
    ((s.rspOp < Config.ackOffset ∨ registered (s.rspOp - Config.ackOffset) = false) ∧
        validateResponse s = raiseFault .unknownOpcode (latchAck s)) ∨
      (¬ s.rspOp < Config.ackOffset ∧ registered (s.rspOp - Config.ackOffset) = true ∧
          s.rspOp - Config.ackOffset ≠ s.reqOp ∧ validateResponse s = raiseFault .ackMismatch (latchAck s)) ∨
        (¬ s.rspOp < Config.ackOffset ∧ registered (s.rspOp - Config.ackOffset) = true ∧
          s.rspOp - Config.ackOffset = s.reqOp ∧
            validateResponse s = acceptResponse (latchAck s)) := by
  by_cases h : s.rspOp < Config.ackOffset ∨ registered (s.rspOp - Config.ackOffset) = false
  · exact .inl ⟨h, by simp [validateResponse, h]⟩
  · have h' := not_or.mp h
    have h2 : registered (s.rspOp - Config.ackOffset) = true := by simpa using h'.2
    by_cases e : s.rspOp - Config.ackOffset = s.reqOp
    · exact .inr (.inr ⟨h'.1, h2, e, by simp [validateResponse, h'.1, e, e ▸ h2]⟩)
    · exact .inr (.inl ⟨h'.1, h2, e, by simp [validateResponse, h'.1, h2, e]⟩)

/-! ### The registry -/

/-- A registry lies within 0 to 36 (00_scope.md R6). -/
theorem registryHolds_le (mask : BitVec 37) (c : Byte) (h : registryHolds mask c = true) : c.toNat ≤ 36 := by
  by_contra hc
  have hm : mask.getLsbD c.toNat = false := BitVec.getLsbD_of_ge _ _ (by omega)
  simp [registryHolds, hm] at h
  rcases h with rfl | rfl <;> exact hc (by decide)

@[simp] theorem registryHolds_heartbeat (mask : BitVec 37) : registryHolds mask Config.heartbeat = true := by
  simp [registryHolds]

@[simp] theorem registryHolds_tecTemperature (mask : BitVec 37) : registryHolds mask Config.tecTemperature = true := by
  simp [registryHolds]

/-! ### One step -/

/-- All a step can do when it has a next state. -/
theorem step_eq_next (s t : State) :
    step s = .next t ↔
      (s.inputs = [] ∧ t = s) ∨
        (∃ rest, s.inputs = .rst :: rest ∧ t = resetBlock { s with inputs := rest }) ∨
          ∃ p rest i, s.inputs = .present p :: rest ∧ decode p = .ok i ∧
            abandonIfReset { s with inputs := rest } (exec i { s with inputs := rest }) = .next t := by
  unfold step
  rcases hs : s.inputs with _ | ⟨_ | p, rest⟩
  · simp [eq_comm (a := t)]
  · simp [eq_comm (a := t)]
  · rcases hd : decode p with e | i <;> simp [hd]

end Sys2Proof.Machine
end

