-- ==== Sys2Proof/Laws/Driver.lean ====
section
/-! SUPPORT. The registry as the host sees it: what the list of its codes holds, in what order it begins, and which operations
the source names. Proofs about the host's opcodes cite these and unfold none of the lists. -/

namespace Sys2Proof.Machine

theorem asOpCode_eq_some (b : Byte) (c : OpCode) : asOpCode b = some c ↔ c.val = b := by
  unfold asOpCode
  split
  · simp [Subtype.ext_iff, eq_comm]
  · rename_i h
    simp only [reduceCtorEq, false_iff]
    rintro rfl
    exact h c.property

@[simp] theorem asOpCode_val (c : OpCode) : asOpCode c.val = some c :=
  (asOpCode_eq_some c.val c).2 rfl

/-- No code is listed twice. -/
theorem heldCodes_nodup : heldCodes.Nodup := by
  unfold heldCodes
  apply List.Nodup.filterMap
  · intro a b c ha hb
    rw [← (asOpCode_eq_some a c).1 ha, ← (asOpCode_eq_some b c).1 hb]
  · have far : ∀ k : Fin 35, (BitVec.ofNat 8 (2 + k.val) : Byte).toNat = 2 + k.val := by
      intro k
      rw [BitVec.toNat_ofNat, Nat.mod_eq_of_lt (by omega)]
    have apart : ∀ (b : Byte), b.toNat < 2 → b ∉ (List.finRange 35).map fun k =>
        BitVec.ofNat 8 (2 + (Config.codeOrder k).val) := by
      intro b hb hm
      obtain ⟨k, -, rfl⟩ := List.mem_map.1 hm
      rw [far] at hb
      omega
    have tail : ((List.finRange 35).map fun k => (BitVec.ofNat 8 (2 + (Config.codeOrder k).val) : Byte)).Nodup := by
      apply List.Nodup.map _ (List.nodup_finRange 35)
      intro j k h
      have h' := congrArg BitVec.toNat h
      simp only [far] at h'
      exact Config.codeOrder.injective (Fin.ext (by omega))
    refine List.nodup_cons.2 ⟨?_, List.nodup_cons.2 ⟨apart _ (by decide), tail⟩⟩
    rw [List.mem_cons, not_or]
    exact ⟨by decide, apart _ (by decide)⟩

/-- Every member of the registry is listed. -/
theorem mem_heldCodes (c : OpCode) : c ∈ heldCodes := by
  have hle : c.val.toNat ≤ 36 := registryHolds_le _ _ c.property
  refine List.mem_filterMap.2 ⟨c.val, ?_, asOpCode_val c⟩
  by_cases h : c.val.toNat < 2
  · have : c.val = 0 ∨ c.val = 1 := by
      have : c.val.toNat = 0 ∨ c.val.toNat = 1 := by omega
      exact this.imp (fun e => BitVec.eq_of_toNat_eq e) (fun e => BitVec.eq_of_toNat_eq e)
    rcases this with e | e <;> simp [e, Config.heartbeat, Config.tecTemperature]
  · refine List.mem_cons_of_mem _ (List.mem_cons_of_mem _ (List.mem_map.2
      ⟨Config.codeOrder.symm ⟨c.val.toNat - 2, by omega⟩, List.mem_finRange _, ?_⟩))
    apply BitVec.eq_of_toNat_eq
    simp only [Equiv.apply_symm_apply, BitVec.toNat_ofNat]
    omega

/-- The list begins with the two codes the source gives (00_scope.md R5, R6). -/
theorem heldCodes_begin :
    ∃ rest, heldCodes =
      ⟨Config.heartbeat, registryHolds_heartbeat _⟩ :: ⟨Config.tecTemperature, registryHolds_tecTemperature _⟩ :: rest :=
  ⟨_, by
    unfold heldCodes
    rw [List.filterMap_cons_some (b := ⟨Config.heartbeat, registryHolds_heartbeat _⟩) ((asOpCode_eq_some _ _).2 rfl),
      List.filterMap_cons_some (b := ⟨Config.tecTemperature, registryHolds_tecTemperature _⟩)
        ((asOpCode_eq_some _ _).2 rfl)]⟩

/-- No operation the source names is listed twice. -/
theorem namedOperations_nodup : namedOperations.Nodup := by
  unfold namedOperations
  cases Config.temperatureIsTec <;> decide

/-- The named operations are those of 45_host_contract.md R171: all but the ones known by their code alone. -/
theorem mem_namedOperations (o : Operation) :
    o ∈ namedOperations ↔ (∀ b, o ≠ .other b) ∧ (o = .getTemperature → Config.temperatureIsTec = false) := by
  unfold namedOperations
  cases Config.temperatureIsTec <;> rcases o with _ | _ | (_ | _ | _) | (_ | _ | _) | _ <;> simp

end Sys2Proof.Machine
end

