-- ==== Sys2Proof/Laws/PerInstr.lean ====
section
/-! SUPPORT. A statement about every instruction as syntax, one lemma per constructor: which boundary its encoding is
presented at. A command goes through port `cmd` with the code of 30_encoding.md R89; a frame row is a frame of its own
direction (R96). -/

namespace Sys2Proof.Laws.EncodingPort

/-- The command code of 30_encoding.md R89, for the nine commands. -/
def codeOf : Instr → Option (BitVec 4)
  | .nop => some 0
  | .crcClr => some 1
  | .crcByte _ => some 2
  | .encReq _ _ => some 3
  | .txSend => some 4
  | .rxLoad => some 5
  | .decRsp => some 6
  | .valRsp => some 7
  | .submit _ _ => some 8
  | .req _ _ _ => none
  | .rsp _ _ _ _ => none
  | .reqHeartbeat _ _ => none
  | .rspHeartbeat _ _ _ => none
  | .reqTecTemperature _ _ => none
  | .rspTecTemperature _ _ _ => none

/-- The code a presented command carries. -/
def presentedCode : Presented → Option (BitVec 4)
  | .command cmd _ _ _ => some cmd
  | .frame _ _ => none

/-- The encoding carries the instruction's command code, or none for a frame. -/
def Statement (i : Instr) : Prop := presentedCode (encode i) = codeOf i

theorem nop : Statement .nop := rfl
theorem crcClr : Statement .crcClr := rfl
theorem crcByte (b : Byte) : Statement (.crcByte b) := rfl
theorem encReq (op : Byte) (opd : Operand) : Statement (.encReq op opd) := rfl
theorem txSend : Statement .txSend := rfl
theorem rxLoad : Statement .rxLoad := rfl
theorem decRsp : Statement .decRsp := rfl
theorem valRsp : Statement .valRsp := rfl
theorem submit (op : Byte) (opd : Operand) : Statement (.submit op opd) := rfl
theorem req (op : Byte) (opd : Operand) (crc : Crc) : Statement (.req op opd crc) := rfl
theorem rsp (sync rop : Byte) (opd : Operand) (crc : Crc) : Statement (.rsp sync rop opd crc) := rfl
theorem reqHeartbeat (opd : Operand) (crc : Crc) : Statement (.reqHeartbeat opd crc) := rfl
theorem rspHeartbeat (sync : Byte) (opd : Operand) (crc : Crc) : Statement (.rspHeartbeat sync opd crc) := rfl
theorem reqTecTemperature (opd : Operand) (crc : Crc) : Statement (.reqTecTemperature opd crc) := rfl
theorem rspTecTemperature (sync : Byte) (opd : Operand) (crc : Crc) : Statement (.rspTecTemperature sync opd crc) := rfl

end Sys2Proof.Laws.EncodingPort
end

