-- ==== Sys2Proof/Laws/Run.lean ====
section
/-! SUPPORT. Running several steps, and one step on a presented instruction. -/

namespace Sys2Proof.Machine

@[simp] theorem runSteps_zero (s : State) : runSteps 0 s = .next s := rfl

theorem runSteps_succ {s t : State} (h : step s = .next t) (k : Nat) : runSteps (k + 1) s = runSteps k t := by
  simp [runSteps, h]

theorem runSteps_one (s : State) : runSteps 1 s = step s := by
  rcases h : step s with t | f | r <;> simp [runSteps, h]

/-- A run that goes wrong at its last step answers what that step answers. -/
theorem runSteps_stop {s : State} {o : Out} (h : step s = o) (ho : ∀ t, o ≠ .next t) (k : Nat) :
    runSteps (k + 1) s = o := by
  rcases o with t | f | r
  · exact absurd rfl (ho t)
  · simp [runSteps, h]
  · simp [runSteps, h]

/-- A step on a presented instruction that decodes runs it on the state with that input taken. -/
theorem step_of_decode {s : State} {p : Presented} {rest : List Input} {i : Instr}
    (hs : s.inputs = .present p :: rest) (hd : decode p = .ok i) :
    step s = abandonIfReset { s with inputs := rest } (exec i { s with inputs := rest }) := by
  simp [step, hs, hd]

/-- Where the instruction does not block, the step is the instruction. -/
theorem abandonIfReset_of_not_fault {o : Out} (h : ∀ f, o ≠ .fault f) (s : State) : abandonIfReset s o = o := by
  rcases o with t | f | r
  · rfl
  · exact absurd rfl (h f)
  · rfl

/-- Where `rst` does not come next, the step is the instruction. -/
theorem abandonIfReset_of_no_reset {s : State} (h : ∀ rest, s.inputs ≠ .rst :: rest) (o : Out) :
    abandonIfReset s o = o := by
  rcases o with t | ⟨dir, l⟩ | r
  · rfl
  · rcases hs : s.inputs with _ | ⟨_ | p, rest⟩
    · simp [abandonIfReset, hs]
    · exact absurd hs (h rest)
    · simp [abandonIfReset, hs]
  · rfl

end Sys2Proof.Machine
end

