-- ==== Sys2Proof/Tests/Slice0.lean ====
section
/-! SUPPORT. Tests. The expected values are those of 95_test_vectors.md (S2 to S6, V1 to V70, P1 to P11), named in each
comment; the words are written out from 30_encoding.md R81, R82, R89. The last part holds, for each statement with
hypotheses, states and operands that meet them. -/

namespace Sys2Proof.Tests

set_option Elab.async false

open Sys2Proof Sys2Proof.Machine

/-! ### States to test on -/

/-- The outcome is a next state with this property. -/
def after (o : Out) (p : State → Bool) : Bool :=
  match o with
  | .next t => p t
  | .fault _ => false
  | .refused _ => false

theorem after_true (o : Out) (p : State → Bool) : after o p = true ↔ ∃ t, o = .next t ∧ p t = true := by
  rcases o with t | f | r <;> simp [after]

/-- The outcome is this refusal. -/
def refusedWith (o : Out) (r : Refusal) : Bool :=
  match o with
  | .next _ => false
  | .fault _ => false
  | .refused r' => r' == r

/-- A scripted transport. -/
def line (ws : List WriteAnswer) (rs : List ReadAnswer) : Transport :=
  { txs := [], writeScript := ws, readScript := rs, answers := [] }

/-- The request frames of S2 and V28. -/
def s2 : Frame := ⟨0xAA, 0x00, 0x00, 0x00, 0x00, 0x00, 0x2A, 0x67⟩
def v28 : Frame := ⟨0xAA, 0x01, 0x00, 0x00, 0x00, 0x00, 0x7B, 0xCD⟩

/-- The response frames of S3 and S4, and S4 with byte 5 changed (V33). -/
def s3 : Frame := ⟨0xAA, 0x7F, 0x00, 0x00, 0x00, 0x00, 0x55, 0x1F⟩
def s4 : Frame := ⟨0xAA, 0x80, 0x29, 0x5C, 0x5B, 0x41, 0xCC, 0x20⟩
def v33 : Frame := ⟨0xAA, 0x80, 0x29, 0x5C, 0x5B, 0x40, 0xCC, 0x20⟩

/-- Nothing encoded, nothing sent; every register a fixed value. -/
def idle : State :=
  { crc := 0x672A, txf := s2, txv := false, reqOp := 0, reqPend := false, rxf := s3, rxv := false, rspOp := 0x11,
    rspOpd := 0x22, rspCrc := 0x33, decv := false, ackOp := 0x44, rspv := false, fault := .none, xdir := .write,
    link := line [] [], inputs := [], draws := 1 }

/-- `idle` on a scripted transport. -/
def idleOn (ws : List WriteAnswer) (rs : List ReadAnswer) : State := { idle with link := line ws rs }

/-- After `ENC.REQ 0, 0` (P2 step 1), the next write answered so. -/
def encoded (a : WriteAnswer) : State := { idle with txv := true, link := line [a] [] }

/-- After `TX.SEND` (P2 step 2), the next read answered so. -/
def sent (a : ReadAnswer) : State :=
  { idle with reqPend := true, link := { line [] [a] with txs := frameBytes s2 } }

/-- After `RX.LOAD` (P2 step 3). -/
def loaded (F : Frame) : State := { sent (.ok s3) with rxf := F, rxv := true }

/-- After `DEC.RSP` (P2 step 4) of a frame with this opcode byte, for a request of this opcode. -/
def decoded (op rop : Byte) : State :=
  { loaded s3 with reqOp := op, rspOp := rop, rspOpd := 0, rspCrc := 0x1F55, crc := 0x1F55, decv := true }

/-- After `VAL.RSP` (P2 step 5), the next write answered so. -/
def validated (a : WriteAnswer) : State :=
  { decoded 0 0x7F with reqPend := false, ackOp := 0, rspv := true, txv := true,
                        link := { line [a] [.ok s3] with txs := frameBytes s2 } }

/-- A halted block. -/
def halted : State := { idle with fault := .checksumMismatch }

/-! ### Well-formedness: each check refuses an ill-formed term -/

theorem test_wf_req_named : (Instr.req 0 0 0x672A).wellFormed = false := by decide +kernel
theorem test_wf_req_named_tec : (Instr.req 1 0 0xCD7B).wellFormed = false := by decide +kernel
theorem test_wf_req_crc : (Instr.req 0x24 0xDEADBEEF 0x22CE).wellFormed = false := by decide +kernel
theorem test_wf_req_good : (Instr.req 0x24 0xDEADBEEF 0x22CF).wellFormed = true := by decide +kernel
theorem test_wf_rsp_named : (Instr.rsp 0xAA 0x7F 0 0x1F55).wellFormed = false := by decide +kernel
theorem test_wf_rsp_named_tec : (Instr.rsp 0xAA 0x80 0 0).wellFormed = false := by decide +kernel
theorem test_wf_reqHeartbeat_crc : (Instr.reqHeartbeat 0 0x672B).wellFormed = false := by decide +kernel
theorem test_wf_reqTec_crc : (Instr.reqTecTemperature 0 0x672A).wellFormed = false := by decide +kernel
/-- A response with a wrong CRC is a well-formed row: the decoder rejects it later (R140). -/
theorem test_wf_rsp_wrong_crc : (Instr.rsp 0xAA 0xA3 7 0).wellFormed = true := by decide +kernel

/-! ### Decoding words written out from the spec -/

theorem test_decode_nop : decodeTableWord 8 0b0000 = some .nop := by decide +kernel
theorem test_decode_crcClr : decodeTableWord 8 0b0001 = some .crcClr := by decide +kernel
theorem test_decode_crcByte : decode (.command 0b0010 0x31 0x77 0x88) = .ok (.crcByte 0x31) := rfl
theorem test_decode_encReq : decode (.command 0b0011 0x99 0x24 0xDEADBEEF) = .ok (.encReq 0x24 0xDEADBEEF) := rfl
theorem test_decode_txSend : decodeTableWord 8 0b0100 = some .txSend := by decide +kernel
theorem test_decode_rxLoad : decodeTableWord 8 0b0101 = some .rxLoad := by decide +kernel
theorem test_decode_decRsp : decodeTableWord 8 0b0110 = some .decRsp := by decide +kernel
theorem test_decode_valRsp : decodeTableWord 8 0b0111 = some .valRsp := by decide +kernel
theorem test_decode_submit : decode (.command 0b1000 0x99 0x01 0x0000C842) = .ok (.submit 0x01 0x0000C842) := rfl
/-- V47. -/
theorem test_decode_req : decodeTableWord 64 0xAA24DEADBEEFCF22 = some (.req 0x24 0xDEADBEEF 0x22CF) := by
  decide +kernel
/-- P8 run a, presented as a response. -/
theorem test_decode_rsp : decode (.frame .response 0xAAA307000000B1F2) = .ok (.rsp 0xAA 0xA3 0x00000007 0xF2B1) := by
  decide +kernel
/-- S2. -/
theorem test_decode_reqHeartbeat : decodeTableWord 64 0xAA00000000002A67 = some (.reqHeartbeat 0 0x672A) := by
  decide +kernel
/-- V31: the sync byte is not looked at. -/
theorem test_decode_rspHeartbeat : decodeTableWord 64 0x557F00000000EA4B = some (.rspHeartbeat 0x55 0 0x4BEA) := by
  decide +kernel
/-- V30. -/
theorem test_decode_reqTec : decodeTableWord 64 0xAA010000C842003A = some (.reqTecTemperature 0x0000C842 0x3A00) := by
  decide +kernel
/-- S4. -/
theorem test_decode_rspTec :
    decodeTableWord 64 0xAA80295C5B41CC20 = some (.rspTecTemperature 0xAA 0x415B5C29 0x20CC) := by decide +kernel
/-- R90. -/
theorem test_decode_reserved : decode (.command 0b1111 0 0 0) = .error (.reservedCode 15) := rfl
theorem test_decode_reserved_first : decode (.command 0b1001 0 0 0) = .error (.reservedCode 9) := rfl
/-- R81. -/
theorem test_decode_request_sync : decode (.frame .request 0xAB00000000002A67) = .error (.requestSync 0xAB) := by
  decide +kernel

/-! ### CRCG -/

/-- V2, V3, V4, V6, V7. -/
theorem test_crcRound : [0x8000, 0x4000, 0xFFFF, 0x8001, 0x0810].map crcRound =
    [0x1021, 0x8000, 0xEFDF, 0x1023, 0x1020] := by decide +kernel
/-- V11, V12, V15, V16, V17. -/
theorem test_crcByte : [crcByte 0 0x01, crcByte 0 0x80, crcByte 0xFFFF 0x00, crcByte 0xAA00 0xAA, crcByte 0x1234 0x56] =
    [0x1021, 0x9188, 0xE1F0, 0x0000, 0x3C40] := by decide +kernel
/-- V41, V44: the check value, and order sensitivity. -/
theorem test_crc16 : crc16 [0x31, 0x32, 0x33, 0x34, 0x35, 0x36, 0x37, 0x38, 0x39] = 0x31C3 ∧
    crc16 [0x01, 0x02] = 0x1373 ∧ crc16 [0x02, 0x01] = 0x7643 := by decide +kernel
/-- V23: also while halted. -/
theorem test_nop : exec .nop halted = .next halted := rfl
/-- V22. -/
theorem test_crcClr : exec .crcClr idle = .next { idle with crc := 0 } := rfl
/-- V21: continues from what the accumulator holds. -/
theorem test_crcByte_command : after (exec (.crcByte 0xAA) idle) (fun t => t.crc == 0x22E1 && t.txf == s2) = true := by
  decide +kernel

/-! ### ENC -/

/-- V47: byte orders of the operand and of the CRC. -/
theorem test_encReq : after (exec (.encReq 0x24 0xDEADBEEF) idle) (fun t =>
    t.txf == ⟨0xAA, 0x24, 0xDE, 0xAD, 0xBE, 0xEF, 0xCF, 0x22⟩ && t.crc == 0x22CF && t.reqOp == 0x24 && t.txv) =
      true := by decide +kernel
/-- P10 step 9. -/
theorem test_encReq_pending : refusedWith (exec (.encReq 0 0) (sent (.ok s3))) .preconditionFails = true := by
  decide +kernel
/-- P2 step 2. -/
theorem test_txSend : after (exec .txSend (encoded .ok)) (fun t =>
    t.link.txs == frameBytes s2 && statusWord t == 0x002) = true := by decide +kernel
/-- P5: three bytes reach the line. -/
theorem test_txSend_fail : after (exec .txSend (encoded (.fail 3))) (fun t =>
    t.link.txs == [0xAA, 0x00, 0x00] && statusWord t == 0x041) = true := by decide +kernel

/-! ### DEC -/

/-- P2 step 3. -/
theorem test_rxLoad : after (exec .rxLoad (sent (.ok s4))) (fun t => t.rxf == s4 && statusWord t == 0x006) = true := by
  decide +kernel
/-- P6. -/
theorem test_rxLoad_fail : after (exec .rxLoad (sent (.fail 7))) (fun t => statusWord t == 0x062) = true := by
  decide +kernel
/-- S4. -/
theorem test_decRsp : after (exec .decRsp (loaded s4)) (fun t =>
    t.rspOp == 0x80 && t.rspOpd == 0x415B5C29 && t.rspCrc == 0x20CC && t.crc == 0x20CC && t.decv) = true := by
  decide +kernel
/-- V33: the fields are written before the comparison. -/
theorem test_decRsp_mismatch : after (exec .decRsp (loaded v33)) (fun t =>
    t.rspOpd == 0x405B5C29 && t.rspCrc == 0x20CC && t.crc == 0x30ED && statusWord t == 0x086) = true := by
  decide +kernel

/-! ### VAL -/

/-- V61. -/
theorem test_valRsp : after (exec .valRsp (decoded 1 0x80)) (fun t => t.ackOp == 1 && statusWord t == 0x01C) = true := by
  decide +kernel
/-- V68: AckMismatch. -/
theorem test_valRsp_mismatch : after (exec .valRsp (decoded 1 0x7F)) (fun t =>
    t.ackOp == 0 && statusWord t == 0x10E) = true := by decide +kernel
/-- P3 step 1. -/
theorem test_submit : after (exec (.submit 0 0) (idleOn [.ok] [.ok s3])) (fun t =>
    t.link.txs == frameBytes s2 && t.ackOp == 0 && t.rspOpd == 0 && t.crc == 0x1F55 && statusWord t == 0x01C) = true := by
  decide +kernel
/-- P8 run b: `ACK_OP = 0xFF`, UnknownOpcode. -/
theorem test_submit_unknown : after (exec (.submit 0 0) (idleOn [.ok] [.ok ⟨0xAA, 0x7E, 0, 0, 0, 0, 0x04, 0xB5⟩]))
    (fun t => t.ackOp == 0xFF && statusWord t == 0x0CE) = true := by decide +kernel

/-! ### The frame rows -/

/-- V49: a request row leaves that frame in `TXF`. -/
theorem test_req : after (exec (.req 0x05 1 0x545C) idle) (fun t =>
    t.txf == ⟨0xAA, 0x05, 0, 0, 0, 1, 0x5C, 0x54⟩ && t.crc == 0x545C && t.txv) = true := by decide +kernel
/-- The CRC over seven bytes that 90_conflicts.md C1 rejects. -/
theorem test_reqHeartbeat_wrong : refusedWith (exec (.reqHeartbeat 0 0xB369) idle) (.notEncoded 0xB369) = true := by
  decide +kernel
/-- S2. -/
theorem test_reqHeartbeat : after (exec (.reqHeartbeat 0 0x672A) idle) (fun t => t.txf == s2 && t.txv) = true := by
  decide +kernel
/-- V28. -/
theorem test_reqTec : after (exec (.reqTecTemperature 0 0xCD7B) idle) (fun t => t.txf == v28 && t.reqOp == 1) = true := by
  decide +kernel
/-- P8 run a. -/
theorem test_rsp : after (exec (.rsp 0xAA 0xA3 7 0xF2B1) idle) (fun t =>
    t.link.readScript == [.ok ⟨0xAA, 0xA3, 7, 0, 0, 0, 0xB1, 0xF2⟩] && !t.rxv) = true := by decide +kernel
/-- S3. -/
theorem test_rspHeartbeat : after (exec (.rspHeartbeat 0xAA 0 0x1F55) idle) (fun t => t.link.readScript == [.ok s3]) =
    true := by decide +kernel
/-- S4. -/
theorem test_rspTec : after (exec (.rspTecTemperature 0xAA 0x415B5C29 0x20CC) idle)
    (fun t => t.link.readScript == [.ok s4]) = true := by decide +kernel

/-! ### Reset, the interface, the host's side -/

/-- R231. -/
theorem test_reset_status : statusWord State.reset = 0x000 ∧ State.reset.crc = 0 := by decide +kernel
/-- P4 after `rst`: the flags are the reset flags and `TXS` is kept. -/
theorem test_rst : after (step { halted with inputs := [.rst], link := { line [] [] with txs := frameBytes v28 } })
    (fun t => statusWord t == 0x000 && t.link.txs == frameBytes v28) = true := by decide +kernel
/-- A table word runs as the first instruction after reset. -/
theorem test_withFetchWord : after (step (State.reset.withFetchWord 64 0xAA00000000002A67))
    (fun t => t.txf == s2 && statusWord t == 0x001) = true := by decide +kernel
theorem test_withFetchWord_command : after (step (State.reset.withFetchWord 8 0b0001)) (fun t => t.crc == 0) = true := by
  decide +kernel
/-- V53. -/
theorem test_voltage_current : voltageOf 42 = 0x3FFCFCFD ∧ currentOf 23 = 0x409E2065 ∧ currentOf 0 = 0 := by
  decide +kernel
/-- V54. -/
theorem test_heartbeat : heartbeatBits 0x00020005 = [0, 2, 17] ∧ heartbeatBits 0x00040000 = [] ∧
    heartbeatBits 0xFFFFFFFF = heartbeatBits 0x0003FFFF := by decide +kernel
/-- V55. -/
theorem test_packFloat : packFloat 0x42C80000 = 0x0000C842 ∧ packFloat 0x415B5C29 = 0x295C5B41 ∧
    packFloat 0xBFC00000 = 0x0000C0BF := by decide +kernel

/-! ### The statements' hypotheses are met

One theorem for each statement that has hypotheses: the states and operands named here meet them. "`after o p = true`"
says that `o` is a next state with the property `p`. -/

/-- 37 is in no registry (R6). -/
theorem unregistered_37 : registered 0x25 = false := by
  by_contra h
  have held : registered 0x25 = true := by simpa using h
  exact absurd (registryHolds_le Config.registryMask 0x25 held) (by decide)

theorem sound_idle : Sound idle :=
  ⟨by decide +kernel, by decide +kernel, by decide +kernel, by decide +kernel, by decide +kernel⟩

theorem sound_encoded : Sound (encoded (.fail 3)) :=
  ⟨by decide +kernel, by decide +kernel, by decide +kernel, by decide +kernel, by decide +kernel⟩

theorem sound_sent : Sound (sent (.ok s3)) :=
  ⟨by decide +kernel, by decide +kernel, by decide +kernel, by decide +kernel, by decide +kernel⟩

theorem sound_loaded : Sound (loaded s3) :=
  ⟨by decide +kernel, by decide +kernel, by decide +kernel, by decide +kernel, by decide +kernel⟩

theorem sound_decoded : Sound (decoded 0 0x7F) :=
  ⟨by decide +kernel, by decide +kernel, by decide +kernel, by decide +kernel, by decide +kernel⟩

theorem sound_validated : Sound (validated .ok) ∧ Sound (validated (.fail 0)) :=
  ⟨⟨by decide +kernel, by decide +kernel, by decide +kernel, by decide +kernel, by decide +kernel⟩,
    ⟨by decide +kernel, by decide +kernel, by decide +kernel, by decide +kernel, by decide +kernel⟩⟩

theorem witness_CrcClrZeroesTheAccumulator : halted.fault ≠ .none ∧ idle.fault = .none := by decide

theorem witness_CrcByteAbsorbsTheByte : halted.fault ≠ .none ∧ idle.fault = .none := by decide

/-- Each half of the refusal's hypothesis alone, and the states that run. -/
theorem witness_EncReqBuildsTheFrame :
    (halted.fault ≠ .none ∧ halted.reqPend = false) ∧ ((sent (.ok s3)).fault = .none ∧ (sent (.ok s3)).reqPend = true) ∧
      (idle.fault = .none ∧ idle.reqPend = false) := by decide

/-- The failing write at both ends of its range, 0 and 8 bytes sent. -/
theorem witness_TxSendWritesTheFrame :
    halted.fault ≠ .none ∧ idle.txv = false ∧ (sent (.ok s3)).reqPend = true ∧
      ((encoded .ok).fault = .none ∧ (encoded .ok).txv = true ∧ (encoded .ok).reqPend = false ∧
        nextWriteAnswer (encoded .ok).link = .ok) ∧
      ((encoded (.fail 0)).txv = true ∧ nextWriteAnswer (encoded (.fail 0)).link = .fail 0) ∧
        nextWriteAnswer (encoded (.fail 8)).link = .fail 8 := by decide

/-- The failing read at both ends of its range, 0 and 7 bytes consumed, and the silent one. -/
theorem witness_RxLoadReadsEightBytes :
    halted.fault ≠ .none ∧ idle.reqPend = false ∧ (loaded s3).rxv = true ∧
      ((sent (.ok s4)).fault = .none ∧ (sent (.ok s4)).reqPend = true ∧ (sent (.ok s4)).rxv = false ∧
        nextReadAnswer (sent (.ok s4)).link = .ok s4) ∧
      nextReadAnswer (sent (.fail 0)).link = .fail 0 ∧ nextReadAnswer (sent (.fail 7)).link = .fail 7 ∧
        nextReadAnswer (sent (.silent 7)).link = .silent 7 := by decide

/-- S4 matches; V33 does not. -/
theorem witness_DecRspDecodesTheFrame :
    halted.fault ≠ .none ∧ idle.rxv = false ∧
      ((loaded s4).fault = .none ∧ (loaded s4).rxv = true ∧
        crc16 [s4.f0, s4.f1, s4.f2, s4.f3, s4.f4, s4.f5] = s4.f7 ++ s4.f6) ∧
        crc16 [v33.f0, v33.f1, v33.f2, v33.f3, v33.f4, v33.f5] ≠ v33.f7 ++ v33.f6 := by decide +kernel

/-- V62 (126, just below the offset), V70 (164, just above the range), V68 (127 for a request of 1), V60 (127), V61 (128). -/
theorem witness_ValRspChecksTheAcknowledgement :
    (halted.fault ≠ .none ∧ idle.decv = false ∧ (validated .ok).reqPend = false) ∧
      ((decoded 0 0x7E).fault = .none ∧ (decoded 0 0x7E).decv = true ∧ (decoded 0 0x7E).reqPend = true ∧
        (decoded 0 0x7E).rspOp.toNat < 127) ∧
      (127 ≤ (decoded 0 0xA4).rspOp.toNat ∧ registered ((decoded 0 0xA4).rspOp - 127) = false) ∧
      (127 ≤ (decoded 1 0x7F).rspOp.toNat ∧ registered ((decoded 1 0x7F).rspOp - 127) = true ∧
        (decoded 1 0x7F).rspOp - 127 ≠ (decoded 1 0x7F).reqOp) ∧
      (registered ((decoded 0 0x7F).rspOp - 127) = true ∧ (decoded 0 0x7F).rspOp - 127 = (decoded 0 0x7F).reqOp) ∧
      (registered ((decoded 1 0x80).rspOp - 127) = true ∧ (decoded 1 0x80).rspOp - 127 = (decoded 1 0x80).reqOp) :=
  ⟨by decide, by decide, ⟨by decide, unregistered_37⟩, by decide +kernel, by decide +kernel, by decide +kernel⟩

/-- P3, both cycles. -/
theorem witness_SubmitCompletesTheCycle :
    (halted.fault ≠ .none ∧ (sent (.ok s3)).reqPend = true) ∧
      ((idleOn [.ok] [.ok s3]).fault = .none ∧ (idleOn [.ok] [.ok s3]).reqPend = false ∧
        nextWriteAnswer (idleOn [.ok] [.ok s3]).link = .ok ∧
        nextReadAnswer (afterWrite (idleOn [.ok] [.ok s3]).link (frameBytes (encodeRequest 0 0))) = .ok s3 ∧
        frameCrc s3 = crcField s3 ∧ registered 0 = true ∧ s3.f1 = 0 + 127) ∧
      (nextReadAnswer (afterWrite (idleOn [.ok] [.ok s4]).link (frameBytes (encodeRequest 1 0))) = .ok s4 ∧
        frameCrc s4 = crcField s4 ∧ registered 1 = true ∧ s4.f1 = 1 + 127) := by decide +kernel

/-- Every end of a cycle is reached: P5, P6, P4, P8 run b, P7, P3. -/
theorem witness_SubmitEndStates :
    after (exec (.submit 0 0) (idleOn [.fail 3] [])) (fun t => statusWord t == 0x041) = true ∧
      after (exec (.submit 0 0) (idleOn [.ok] [.fail 0])) (fun t => statusWord t == 0x062) = true ∧
      after (exec (.submit 1 0) (idleOn [.ok] [.ok v33])) (fun t => statusWord t == 0x086) = true ∧
      after (exec (.submit 0 0) (idleOn [.ok] [.ok ⟨0xAA, 0x7E, 0, 0, 0, 0, 0x04, 0xB5⟩]))
        (fun t => statusWord t == 0x0CE) = true ∧
      after (exec (.submit 1 0) (idleOn [.ok] [.ok s3])) (fun t => statusWord t == 0x10E) = true ∧
      after (exec (.submit 1 0) (idleOn [.ok] [.ok s4])) (fun t => statusWord t == 0x01C) = true := by decide +kernel

theorem witness_SubmitIsTheFiveCommands :
    after (step { idleOn [.ok] [.ok s3] with inputs := [presentInstr (.submit 0 0)] }) (fun t => t.fault == .none) =
      true := by decide +kernel

theorem witness_ReservedCodesAreRefused :
    9 ≤ (9 : BitVec 4).toNat ∧ 9 ≤ (15 : BitVec 4).toNat ∧
      { idle with inputs := [.present (.command 9 0 0 0)] }.inputs = .present (.command 9 0 0 0) :: [] := by decide

theorem witness_HaltedBlockAcceptsOnlyNop : isCommand .nop = true ∧ isCommand .txSend = true ∧ halted.fault ≠ .none := by
  decide

/-- A halted block with `NOP` presented has a next state; with `rst` presented too. -/
theorem witness_FaultIsStickyUntilReset :
    (halted.fault ≠ .none ∧ after (step { halted with inputs := [presentInstr .nop] }) (fun _ => true) = true) ∧
      (isCommand .crcClr = true ∧ Instr.crcClr ≠ .nop) ∧
      { halted with inputs := [.rst] }.inputs = .rst :: [] := by decide +kernel

theorem witness_ResetKeepsTheTransport : { halted with inputs := [.rst] }.inputs = .rst :: [] := by decide

theorem witness_UnansweredTransferFaultsOrBlocks :
    ((encoded (.silent 8)).fault = .none ∧ (encoded (.silent 8)).txv = true ∧ (encoded (.silent 8)).reqPend = false ∧
        nextWriteAnswer (encoded (.silent 8)).link = .silent 8) ∧
      ((sent (.silent 0)).fault = .none ∧ (sent (.silent 0)).reqPend = true ∧ (sent (.silent 0)).rxv = false ∧
        nextReadAnswer (sent (.silent 0)).link = .silent 0) := by decide

/-- Each command with a transfer that waits, at an end of the range of bytes moved, and `rst` behind it; `SUBMIT` in its write
and in its read. -/
theorem witness_ResetAbandonsACommandInProgress :
    (let s : State := { encoded (.silent 8) with inputs := [presentInstr .txSend, .rst] }
     s.inputs = presentInstr .txSend :: .rst :: [] ∧ s.fault = .none ∧ s.txv = true ∧ s.reqPend = false ∧
       nextWriteAnswer s.link = .silent 8) ∧
    (let s : State := { sent (.silent 0) with inputs := [presentInstr .rxLoad, .rst] }
     s.inputs = presentInstr .rxLoad :: .rst :: [] ∧ s.fault = .none ∧ s.reqPend = true ∧ s.rxv = false ∧
       nextReadAnswer s.link = .silent 0) ∧
    (let s : State := { idleOn [.silent 0] [] with inputs := [presentInstr (.submit 0 0), .rst] }
     s.inputs = presentInstr (.submit 0 0) :: .rst :: [] ∧ s.fault = .none ∧ s.reqPend = false ∧
       nextWriteAnswer s.link = .silent 0) ∧
    (let s : State := { idleOn [.ok] [.silent 7] with inputs := [presentInstr (.submit 0 0), .rst] }
     s.inputs = presentInstr (.submit 0 0) :: .rst :: [] ∧ s.fault = .none ∧ s.reqPend = false ∧
       nextWriteAnswer s.link = .ok ∧
       nextReadAnswer (afterWrite s.link (frameBytes (encodeRequest 0 0))) = .silent 7) := by
  decide +kernel

/-- P2, five steps from reset. -/
theorem witness_EveryRunFromResetHasReachableFlags :
    after (runSteps 5 { State.reset with inputs := cycleCommands 0 0, link := line [.ok] [.ok s3] })
      (fun t => statusWord t == 0x01C) = true := by decide +kernel

/-- The three premises of the implications, each in a state that meets the hypotheses. -/
theorem witness_ReachableFlagsObeyTheImplications :
    (FlagsReachable (decoded 0 0x7F) ∧ (decoded 0 0x7F).fault = .none ∧ (decoded 0 0x7F).decv = true) ∧
      (FlagsReachable (validated .ok) ∧ (validated .ok).fault = .none ∧ (validated .ok).rspv = true) ∧
      (FlagsReachable (sent (.ok s3)) ∧ (sent (.ok s3)).fault = .none ∧ (sent (.ok s3)).reqPend = true) := by
  decide +kernel

/-- Sound states in which each clause of soundness speaks, with a step that has a next state. -/
theorem witness_EveryStepKeepsSoundness :
    Sound idle ∧ Sound (encoded (.fail 3)) ∧ Sound (sent (.ok s3)) ∧ Sound (loaded s3) ∧ Sound (decoded 0 0x7F) ∧
      Sound (validated .ok) ∧ after (step (decoded 0 0x7F)) (fun _ => true) = true :=
  ⟨sound_idle, sound_encoded, sound_sent, sound_loaded, sound_decoded, sound_validated.1, by decide +kernel⟩

theorem witness_ValidatedResponseMeetsTheInvariant :
    (Sound (decoded 0 0x7F) ∧ after (exec .valRsp (decoded 0 0x7F)) (fun t => t.fault == .none) = true) ∧
      (Sound (validated .ok) ∧ after (exec (.submit 0 0) (validated .ok)) (fun t => t.fault == .none) = true) :=
  ⟨⟨sound_decoded, by decide +kernel⟩, ⟨sound_validated.1, by decide +kernel⟩⟩

theorem witness_TransmitStreamIsAppendOnly :
    after (step { encoded .ok with inputs := [presentInstr .txSend] }) (fun t => t.link.txs.length == 8) = true := by
  decide +kernel

/-- Also with a `rst` behind the command, which the step does not take. -/
theorem witness_OneRequestOutstanding :
    let s : State := { sent (.ok s3) with inputs := [presentInstr .rxLoad, .rst] }
    s.reqPend = true ∧ (∀ rest, s.inputs ≠ .rst :: rest) ∧
      (∀ (p : Presented) (rest : List Input), s.inputs = .present p :: .rst :: rest → rest = []) ∧
      after (step s) (fun t => t.rxv && t.inputs == [.rst]) = true := by
  refine ⟨by decide, by simp [presentInstr], by simp [presentInstr], by decide +kernel⟩

/-- The result is held over `ENC.REQ`, over a failing `TX.SEND` and a failing `SUBMIT`; the last clause at P11 step 11. -/
theorem witness_ResultIsHeldUntilTheNextSend :
    (Sound (validated (.fail 0)) ∧ (validated (.fail 0)).rspv = true ∧ nextWriteAnswer (validated (.fail 0)).link ≠ .ok) ∧
      after (exec (.encReq 1 0) (validated (.fail 0))) (fun _ => true) = true ∧
      after (exec .txSend (validated (.fail 0))) (fun _ => true) = true ∧
      after (exec (.submit 1 0) (validated (.fail 0))) (fun _ => true) = true ∧
      nextWriteAnswer (validated .ok).link = .ok ∧ after (exec .txSend (validated .ok)) (fun t => !t.rspv) = true :=
  ⟨⟨sound_validated.2, by decide, by decide⟩, by decide +kernel, by decide +kernel, by decide +kernel, by decide,
    by decide +kernel⟩

theorem witness_OnlyTheListedCommandsWrite :
    after (exec .txSend (encoded .ok)) (fun _ => true) = true ∧ after (exec .decRsp (loaded s3)) (fun _ => true) = true ∧
      after (exec (.rsp 0 0 0 0) idle) (fun _ => true) = true := by decide +kernel

theorem witness_OnlySendAndLoadTouchTheTransport :
    isCommand .rxLoad = true ∧ isCommand .decRsp = true ∧ after (exec .rxLoad (sent (.ok s3))) (fun _ => true) = true ∧
      after (exec .decRsp (loaded s3)) (fun _ => true) = true := by decide +kernel

theorem witness_CrcCommandsComputeCrc16 : idle.fault = .none := by decide

theorem witness_Crc16IsLinear : ([0xAA, 0x7F] : List Byte).length = ([0xAA, 0x80] : List Byte).length := by decide

theorem witness_OneChangedByteChangesTheCrc : (0x00 : Byte) ≠ 0xFF := by decide

/-- The first and the last of the 48 bits. -/
theorem witness_TwoChangedBitsChangeTheCrc : (coveredBytes s4).length = 6 ∧ (0 : Fin 48) ≠ 47 := by decide

theorem witness_XorOfTwoValidFramesIsValid : frameCrc s3 = crcField s3 ∧ frameCrc s4 = crcField s4 := by decide +kernel

theorem witness_EncoderProperties : encodeRequest 0x24 0xDEADBEEF = encodeRequest (0x23 + 1) 0xDEADBEEF := by
  decide +kernel

theorem witness_TamperingOneByteIsDetected :
    decodeResponse s4 ≠ none ∧ (0xAB : Byte) ≠ s4.f0 ∧ (0x81 : Byte) ≠ s4.f1 ∧ (0x28 : Byte) ≠ s4.f2 ∧
      (0x5D : Byte) ≠ s4.f3 ∧ (0x5A : Byte) ≠ s4.f4 ∧ (0x40 : Byte) ≠ s4.f5 ∧ (0xCD : Byte) ≠ s4.f6 ∧
        (0x21 : Byte) ≠ s4.f7 := by decide +kernel

/-- A well-formed instruction of each format, at the ends of the operand's range. -/
theorem witness_DecodeOfEncodeIsTheInstruction :
    (Instr.encReq 0xFF 0xFFFFFFFF).wellFormed = true ∧ (Instr.req 0xFF 0xFFFFFFFF 0xA44A).wellFormed = true ∧
      (Instr.req 0x02 0x000000FF 0x3D59).wellFormed = true ∧ (Instr.reqHeartbeat 0 0x672A).wellFormed = true ∧
      (Instr.reqTecTemperature 0 0xCD7B).wellFormed = true ∧ (Instr.rsp 0 0x81 0xFFFFFFFF 0).wellFormed = true := by
  decide +kernel

theorem witness_EncodeOfDecodeIsTheWord :
    decode (.frame .request 0xAA00000000002A67) = .ok (.reqHeartbeat 0 0x672A) ∧
      decode (.frame .response 0xAA7F00000000551F) = .ok (.rspHeartbeat 0xAA 0 0x1F55) ∧
      decode (.command 8 1 2 3) = .ok (.submit 2 3) ∧ decode (.command 3 1 2 3) = .ok (.encReq 2 3) ∧
      decode (.command 2 1 2 3) = .ok (.crcByte 1) ∧ decode (.command 0 1 2 3) = .ok .nop := by decide +kernel

theorem witness_AStepRunsTheDecodedInstruction :
    idle.inputs = [] ∧
      { idle with inputs := [.present (.command 3 0 0 0), .rst] }.inputs = .present (.command 3 0 0 0) :: [.rst] ∧
      decode (.command 3 0 0 0) = .ok (.encReq 0 0) := by decide

theorem witness_RequestFrameRowsRunAsEncReq :
    (idle.fault = .none ∧ idle.reqPend = false) ∧ (halted.fault ≠ .none ∧ (sent (.ok s3)).reqPend = true) ∧
      0xB369 ≠ requestCrc 0 0 ∧ 0x672A ≠ requestCrc 1 0 := by decide +kernel

theorem witness_APresentedResponseIsDecoded :
    let s : State := { idle with reqPend := true }
    s.fault = .none ∧ s.reqPend = true ∧ s.rxv = false ∧ s.decv = false ∧ s.link.readScript = [] := by decide

/-- The last byte below the offset, the offset, the highest acknowledgement, and the first byte above it. -/
theorem witness_BelowTheOffsetIsUnrecognized :
    (0x7E : Byte).toNat < 127 ∧ 127 ≤ (0x7F : Byte).toNat ∧ ¬ 163 < (0xA3 : Byte).toNat ∧ 163 < (0xA4 : Byte).toNat := by
  decide

theorem witness_RegistryIsAnySubsetWithZeroAndOne :
    registryHolds 0 0 = true ∧ (0 : Byte) ∈ [0, 1, 36] ∧ (1 : Byte) ∈ [0, 1, 36] ∧
      ∀ c ∈ ([0, 1, 36] : List Byte), c.toNat ≤ 36 := by decide

/-- P8, its last line, with opcode 37 for a registry that may hold 36. -/
theorem witness_UnregisteredRequestNeverCompletes :
    registered (decoded 0x25 0x7E).reqOp = false ∧ after (exec .valRsp (decoded 0x25 0x7E)) (fun _ => true) = true ∧
      registered 0x25 = false ∧ after (exec (.submit 0x25 0) (idleOn [.ok] [.ok s3])) (fun _ => true) = true :=
  ⟨unregistered_37, by decide +kernel, unregistered_37, by decide +kernel⟩

/-- Each of the four conditions alone. -/
theorem witness_PortsShowTheRegisters :
    (decoded 0 0x7F).decv = true ∧ (halted.decv = false ∧ halted.fault = .checksumMismatch) ∧
      (validated .ok).rspv = true ∧ { decoded 0 0x7E with fault := .unknownOpcode }.fault = .unknownOpcode ∧
        { decoded 1 0x7F with fault := .ackMismatch }.fault = .ackMismatch := by decide

theorem witness_RepeatedDecodingChangesNothing :
    after (exec .decRsp (loaded s4)) (fun t => t.fault == .none) = true := by decide +kernel

/-- Opcode 0 is in every registry (R6). -/
theorem witness_HeartbeatListsTheSetConditionsInTableOrder :
    (0x00040005 : Operand) &&& 0x3FFFF = 0x00000005 &&& 0x3FFFF ∧ registered 0 = true := by decide

/-- Opcodes 0 and 1 are in every registry (R6), and 0 is the heartbeat's code. -/
theorem witness_EachRegisteredCodeNamesOneOperation :
    registered 0 = true ∧ registered 1 = true ∧ operationCode .heartbeat = some ⟨0, registryHolds_heartbeat _⟩ ∧
      ∀ b, Operation.heartbeat ≠ .other b := by
  refine ⟨registryHolds_heartbeat _, registryHolds_tecTemperature _, ?_, by simp⟩
  obtain ⟨rest, h⟩ := heldCodes_begin
  simp [operationCode, registeredAs, h, operationOf, namedOperations, Config.heartbeat]

theorem witness_ARequestPatternWithoutTheSyncByteIsRefused :
    (0xAB00000000002A67 : BitVec 64).extractLsb' 56 8 ≠ 0xAA ∧ (0 : BitVec 64).extractLsb' 56 8 ≠ 0xAA ∧
      { idle with inputs := [.present (.frame .request 0xAB00000000002A67)] }.inputs =
        .present (.frame .request 0xAB00000000002A67) :: [] := by decide

end Sys2Proof.Tests
end

section
/-! The status word (10_state.md R31) and what a block with a fault still does (R30; 60_exceptions.md R209, R211,
R215). -/

namespace Sys2Proof.Machine

/-! ### The fields of `STATUS` -/

@[simp] theorem flagBit_getElem_zero (b : Bool) : (flagBit b)[0] = b := by
  simp [flagBit]

@[simp] theorem xdirBit_getElem_zero (d : XDir) : (xdirBit d)[0] = (d == .read) := by
  cases d <;> rfl

theorem faultNumber_toNat_le_four (c : FaultCode) : (faultNumber c).toNat ≤ 4 := by
  cases c <;> decide

/-- Every bit of `STATUS`, by its position in the concatenation of the fields. -/
theorem statusWord_getLsbD (s : State) (i : Nat) :
    (statusWord s).getLsbD i =
      match i with
      | 0 => s.txv
      | 1 => s.reqPend
      | 2 => s.rxv
      | 3 => s.decv
      | 4 => s.rspv
      | 5 => s.xdir == .read
      | k + 6 => (faultNumber s.fault).getLsbD k := by
  have append_bit : (statusWord s).getLsbD i =
      (faultNumber s.fault ++ xdirBit s.xdir ++ flagBit s.rspv ++ flagBit s.decv ++ flagBit s.rxv ++
        flagBit s.reqPend ++ flagBit s.txv).getLsbD i := rfl
  simp only [append_bit, BitVec.getLsbD_append, -Nat.reduceAdd]
  rcases i with _ | _ | _ | _ | _ | _ | k <;> simp

theorem statusWord_extractLsb'_fault (s : State) : (statusWord s).extractLsb' 6 3 = faultNumber s.fault := by
  ext i hi
  calc ((statusWord s).extractLsb' 6 3)[i]
    _ = (statusWord s).getLsbD (i + 6) := by rw [BitVec.getElem_extractLsb', Nat.add_comm]
    _ = (faultNumber s.fault).getLsbD i := statusWord_getLsbD s (i + 6)
    _ = (faultNumber s.fault)[i] := BitVec.getLsbD_eq_getElem hi

/-- Settles O53, bit by bit. -/
theorem statusWordFields : Obligations.StatusWordFields :=
  ⟨rfl, rfl, rfl, rfl, rfl, rfl, fun s =>
    ⟨statusWord_getLsbD s 0, statusWord_getLsbD s 1, statusWord_getLsbD s 2, statusWord_getLsbD s 3,
      statusWord_getLsbD s 4, statusWord_getLsbD s 5, statusWord_extractLsb'_fault s,
      faultNumber_toNat_le_four s.fault⟩⟩

/-! ### A halted block -/

theorem guarded_of_unmet {met : Bool} (h : met = false) (o : Out) : guarded met o = .refused .preconditionFails :=
  h ▸ guarded_false o

/-- Every precondition of 70_reset_and_hazards.md R236 but that of `NOP` asks for `FAULT = 0`. -/
theorem preconditions_unmet_of_halted {s : State} (h : s.fault ≠ .none) :
    preCrcClr s = false ∧ preCrcByte s = false ∧ preEncReq s = false ∧ preTxSend s = false ∧ preRxLoad s = false ∧
      preDecRsp s = false ∧ preValRsp s = false ∧ preSubmit s = false := by
  have hh : isHalted s = true := isHalted_true.mpr h
  simp [preCrcClr, preCrcByte, preEncReq, preTxSend, preRxLoad, preDecRsp, preValRsp, preSubmit, hh]

theorem exec_command_of_halted {s : State} {i : Instr} (h : s.fault ≠ .none) (hc : isCommand i = true)
    (hn : i ≠ .nop) : exec i s = .refused .preconditionFails := by
  obtain ⟨hClr, hByte, hEnc, hTx, hRx, hDec, hVal, hSub⟩ := preconditions_unmet_of_halted h
  cases i with
  | nop => exact absurd rfl hn
  | crcClr => exact guarded_of_unmet hClr _
  | crcByte b => exact guarded_of_unmet hByte _
  | encReq op opd => exact guarded_of_unmet hEnc _
  | txSend => exact guarded_of_unmet hTx _
  | rxLoad => exact guarded_of_unmet hRx _
  | decRsp => exact guarded_of_unmet hDec _
  | valRsp => exact guarded_of_unmet hVal _
  | submit op opd => exact guarded_of_unmet hSub _
  | req | rsp | reqHeartbeat | rspHeartbeat | reqTecTemperature | rspTecTemperature => simp [isCommand] at hc

/-- A request frame is refused in a halted block, whether or not its CRC is right. -/
theorem buildRequestFrame_of_halted {s : State} (h : s.fault ≠ .none) (op : Byte) (opd : Operand) (crc : Crc) :
    ∃ r, buildRequestFrame op opd crc s = .refused r := by
  obtain ⟨-, -, hEnc, -⟩ := preconditions_unmet_of_halted h
  by_cases hcrc : crc = requestCrc op opd
  · exact ⟨.preconditionFails, by simp [buildRequestFrame, hcrc, guarded_of_unmet hEnc]⟩
  · exact ⟨.notEncoded crc, by simp [buildRequestFrame, hcrc]⟩

/-- All an instruction can do in a halted block: nothing (`NOP`), leave a frame with the transport, or be refused. In
particular none waits on the transport, so there is nothing for a `rst` behind it to abandon. -/
theorem exec_of_halted {s : State} (h : s.fault ≠ .none) (i : Instr) :
    exec i s = .next s ∨ (∃ F, exec i s = .next { s with link := deliverFrame F s.link }) ∨
      ∃ r, exec i s = .refused r := by
  cases i with
  | nop => exact .inl rfl
  | crcClr | crcByte | encReq | txSend | rxLoad | decRsp | valRsp | submit =>
    exact .inr (.inr ⟨_, exec_command_of_halted h rfl (by simp)⟩)
  | req | reqHeartbeat | reqTecTemperature => exact .inr (.inr (buildRequestFrame_of_halted h _ _ _))
  | rsp | rspHeartbeat | rspTecTemperature => exact .inr (.inl ⟨_, rfl⟩)

theorem exec_keeps_fault_of_halted {s t : State} {i : Instr} (h : s.fault ≠ .none) (he : exec i s = .next t) :
    t.fault = s.fault := by
  obtain hx | ⟨F, hx⟩ | ⟨r, hx⟩ := exec_of_halted h i <;> cases hx.symm.trans he <;> rfl

theorem exec_ne_fault_of_halted {s : State} (h : s.fault ≠ .none) (i : Instr) (f : Fault) : exec i s ≠ .fault f := by
  obtain hx | ⟨F, hx⟩ | ⟨r, hx⟩ := exec_of_halted h i <;> simp [hx]

theorem step_keeps_fault_of_halted {s t : State} (h : s.fault ≠ .none) (hr : ∀ rest, s.inputs ≠ .rst :: rest)
    (hst : step s = .next t) : t.fault = s.fault := by
  obtain ⟨-, rfl⟩ | ⟨rest, hin, -⟩ | ⟨p, rest, i, -, -, he⟩ := (step_eq_next s t).mp hst
  · rfl
  · exact absurd hin (hr rest)
  · obtain he | ⟨dir, l, _, hblocked, -, -⟩ := (abandonIfReset_eq_next _ _ t).mp he
    · exact exec_keeps_fault_of_halted (s := { s with inputs := rest }) h he
    · exact absurd hblocked (exec_ne_fault_of_halted (s := { s with inputs := rest }) h i _)

theorem step_on_rst {s : State} {rest : List Input} (h : s.inputs = .rst :: rest) :
    step s = .next (resetBlock { s with inputs := rest }) :=
  (step_eq_next s _).mpr (.inr (.inl ⟨rest, h, rfl⟩))

/-- Settles O15, from what a halted block still does (`exec_of_halted`). -/
theorem faultIsStickyUntilReset : Obligations.FaultIsStickyUntilReset :=
  ⟨fun _ _ h hr hst => step_keeps_fault_of_halted h hr hst, fun _ _ h hc hn => exec_command_of_halted h hc hn,
    fun _ _ h => ⟨_, step_on_rst h, resetBlock_fault _⟩⟩

end Sys2Proof.Machine
end

section
/-! Words the decoder takes nothing from (30_encoding.md R90): the step on one is refused, with the reason the decoder
names. -/

namespace Sys2Proof.Machine

/-- A step on what does not decode is refused with the decoder's reason: nothing is executed, whatever the state. -/
theorem step_of_decode_error {s : State} {p : Presented} {rest : List Input} {e : DecodeError}
    (hs : s.inputs = .present p :: rest) (hd : decode p = .error e) : step s = .refused (refusalOf e) := by
  simp [step, hs, hd]

/-- The codes of 30_encoding.md R89 end at 8; the ports are not looked at beyond them. -/
theorem decodeCommand_of_reserved {cmd : BitVec 4} (h : 9 ≤ cmd.toNat) (din op : Byte) (opd : Operand) :
    decodeCommand cmd din op opd = .error (.reservedCode cmd) := by
  unfold decodeCommand
  split
  case h_10 => rfl
  all_goals omega

/-- Settles O12: a reserved code does not decode, and the step answers with the decoder's reason. -/
theorem reservedCodesAreRefused : Obligations.ReservedCodesAreRefused :=
  fun _ din op opd _ _ hcmd hs => step_of_decode_error hs (decodeCommand_of_reserved hcmd din op opd)

end Sys2Proof.Machine
end

section
/-! CRCG's commands: `NOP`, `CRC.CLR`, `CRC.BYTE` (40_crc.md R114 to R116). -/

namespace Sys2Proof.Machine

/-! ### What the commands answer where their precondition holds -/

theorem guarded_of_met {met : Bool} (h : met = true) (o : Out) : guarded met o = o :=
  h ▸ guarded_true o

theorem preCrcClr_eq_true {s : State} : preCrcClr s = true ↔ s.fault = .none := by
  simp [preCrcClr, isHalted_false]

theorem preCrcByte_eq_true {s : State} : preCrcByte s = true ↔ s.fault = .none := by
  simp [preCrcByte, isHalted_false]

theorem exec_crcClr_of_no_fault {s : State} (h : s.fault = .none) :
    exec .crcClr s = .next { s with crc := Config.crcInit } :=
  guarded_of_met (preCrcClr_eq_true.mpr h) _

theorem exec_crcByte_of_no_fault {s : State} (h : s.fault = .none) (b : Byte) :
    exec (.crcByte b) s = .next { s with crc := crcByte s.crc b } :=
  guarded_of_met (preCrcByte_eq_true.mpr h) _

/-! ### Absorbing a byte -/

/-- A byte shifted into bits 15:8 is that byte over a zero byte (40_crc.md R118). -/
theorem setWidth_shiftLeft_eq_append (b : Byte) : b.setWidth 16 <<< 8 = b ++ 0x00#8 :=
  calc b.setWidth 16 <<< 8
    _ = b.shiftLeftZeroExtend 8 := (BitVec.shiftLeftZeroExtend_eq (x := b) (n := 8)).symm
    _ = b.shiftLeftZeroExtend 8 ||| 0#16 := BitVec.or_zero.symm
    _ = b ++ 0x00#8 := rfl

@[simp] theorem crcRounds_of_zero (n : Nat) : crcRounds n 0 = 0 := by
  induction n with
  | zero => rfl
  | succ n ih => rw [crcRounds, crcRound_zero, ih]

/-- The byte cancels the high half, and rounds on 0 stay at 0 (40_crc.md R116, corner case (c)). -/
theorem crcByte_of_high_half (b : Byte) : crcByte (b ++ 0x00#8) b = 0 :=
  calc crcByte (b ++ 0x00#8) b
    _ = crcRounds 8 ((b ++ 0x00#8) ^^^ (b ++ 0x00#8)) := by rw [crcByte, setWidth_shiftLeft_eq_append]
    _ = crcRounds 8 0 := congrArg (crcRounds 8) BitVec.xor_self
    _ = 0 := crcRounds_of_zero 8

/-- The accumulator after 0, 1, ..., 8 rounds in the example of 40_crc.md R116. -/
theorem crcRounds_of_0xAA00 :
    (List.range 9).map (fun n => crcRounds n 0xAA00) =
      [0xAA00, 0x4421, 0x8842, 0x00A5, 0x014A, 0x0294, 0x0528, 0x0A50, 0x14A0] := by
  decide

/-- The example of 40_crc.md R116 from its first XOR on: byte 0xAA into a cleared accumulator. -/
theorem crcByte_zero_0xAA : crcByte 0x0000 0xAA = 0x14A0 := by
  decide

/-! ### The commands -/

/-- Settles O1: `NOP` has no precondition to fail. -/
theorem nopGivesTheSameState : Obligations.NopGivesTheSameState :=
  ⟨fun _ _ _ => rfl, fun _ => guarded_true _⟩

/-- Settles O2, from what a halted block refuses and what `CRC.CLR` answers in any other. -/
theorem crcClrZeroesTheAccumulator : Obligations.CrcClrZeroesTheAccumulator :=
  ⟨fun _ _ _ => rfl, fun _ h => exec_command_of_halted h rfl (by simp), fun _ h => exec_crcClr_of_no_fault h⟩

/-- Settles O3: the command's decoding, refusal and effect, then the corner case and the example of `crc_byte`. -/
theorem crcByteAbsorbsTheByte : Obligations.CrcByteAbsorbsTheByte :=
  ⟨fun _ _ _ => rfl, fun _ _ h => exec_command_of_halted h rfl (by simp), fun b _ h => exec_crcByte_of_no_fault h b,
    crcByte_of_high_half, crcByte_zero_0xAA, crcRounds_of_0xAA00⟩

end Sys2Proof.Machine
end

section
/-! ENC: the bytes of a request frame, and the commands `ENC.REQ` and `TX.SEND` (41_frame_encode.md R130, R131,
R133). -/

namespace Sys2Proof.Machine

/-! ### The bytes of a request frame -/

@[simp] theorem length_frameBytes (F : Frame) : (frameBytes F).length = 8 := rfl

/-- Format REQ, byte by byte: the operand high byte first, the CRC low byte first (30_encoding.md R81, R83, R85). -/
theorem frameBytes_requestFrame (sync op : Byte) (opd : Operand) (crc : Crc) :
    frameBytes (requestFrame sync op opd crc) =
      [sync, op, opd.extractLsb' 24 8, opd.extractLsb' 16 8, opd.extractLsb' 8 8, opd.extractLsb' 0 8,
       crc.extractLsb' 0 8, crc.extractLsb' 8 8] := rfl

/-- The CRC of a request covers its first six bytes (30_encoding.md R85), the last two being left out. -/
theorem requestCrc_eq_crc16 (op : Byte) (opd : Operand) :
    requestCrc op opd =
      crc16 [0xAA, op, opd.extractLsb' 24 8, opd.extractLsb' 16 8, opd.extractLsb' 8 8, opd.extractLsb' 0 8] := rfl

/-- Settles O38: the layout of format REQ, with the CRC of the six bytes before it in its CRC field. -/
theorem requestFrameLayout : Obligations.RequestFrameLayout := by
  intro op opd c
  have hcrc : requestCrc op opd = c := requestCrc_eq_crc16 op opd
  calc frameBytes (encodeRequest op opd)
    _ = frameBytes (requestFrame Config.sync op opd c) := by rw [encodeRequest, hcrc]
    _ = _ := frameBytes_requestFrame Config.sync op opd c

/-! ### The preconditions -/

theorem preEncReq_eq_true {s : State} : preEncReq s = true ↔ s.fault = .none ∧ s.reqPend = false := by
  simp [preEncReq, isHalted_false]

theorem preEncReq_eq_false {s : State} : preEncReq s = false ↔ s.fault ≠ .none ∨ s.reqPend = true := by
  simp [preEncReq, isHalted, imp_iff_not_or]

theorem preTxSend_eq_true {s : State} :
    preTxSend s = true ↔ s.fault = .none ∧ s.txv = true ∧ s.reqPend = false := by
  simp [preTxSend, isHalted_false, and_assoc]

theorem preTxSend_eq_false {s : State} :
    preTxSend s = false ↔ s.fault ≠ .none ∨ s.txv = false ∨ s.reqPend = true := by
  simp [preTxSend, isHalted, imp_iff_not_or, or_assoc]

/-! ### An exact write, by the transport's answer -/

/-- A write the transport takes puts all of a frame on the line (20_memory.md R60). -/
theorem afterWrite_of_ok {t : Transport} (h : nextWriteAnswer t = .ok) (F : Frame) :
    afterWrite t (frameBytes F) =
      { t with
        txs := t.txs ++ frameBytes F, writeScript := t.writeScript.tail, answers := t.answers ++ [.write .ok] } := by
  have whole : (frameBytes F).take 8 = frameBytes F := List.take_of_length_le (length_frameBytes F).le
  simp [afterWrite, h, bytesSent, whole]

/-- A write that fails after `k` bytes puts those on the line (20_memory.md R60). -/
theorem afterWrite_of_fail {t : Transport} {k : Fin 9} (h : nextWriteAnswer t = .fail k) (bs : List Byte) :
    afterWrite t bs =
      { t with
        txs := t.txs ++ bs.take k, writeScript := t.writeScript.tail,
        answers := t.answers ++ [.write (.fail k)] } := by
  simp [afterWrite, h, bytesSent]

theorem sendRequest_of_ok {s : State} (h : nextWriteAnswer s.link = .ok) : sendRequest s = .next (markSent s) :=
  (sendRequest_eq_next s _).mpr (.inl ⟨h, rfl⟩)

theorem sendRequest_of_fail {s : State} {k : Fin 9} (h : nextWriteAnswer s.link = .fail k) :
    sendRequest s = .next (failWrite s) :=
  (sendRequest_eq_next s _).mpr (.inr (.inl ⟨⟨k, h⟩, rfl⟩))

/-! ### The commands -/

theorem exec_encReq_of_unmet {s : State} (h : preEncReq s = false) (op : Byte) (opd : Operand) :
    exec (.encReq op opd) s = .refused .preconditionFails :=
  guarded_of_unmet h _

theorem exec_encReq_of_met {s : State} (h : preEncReq s = true) (op : Byte) (opd : Operand) :
    exec (.encReq op opd) s = .next (latchRequest op opd s) :=
  guarded_of_met h _

theorem exec_txSend_of_unmet {s : State} (h : preTxSend s = false) : exec .txSend s = .refused .preconditionFails :=
  guarded_of_unmet h _

theorem exec_txSend_of_met {s : State} (h : preTxSend s = true) : exec .txSend s = sendRequest s :=
  guarded_of_met h _

/-- Settles O4: the precondition decides between the refusal and the writes of `latchRequest`. -/
theorem encReqBuildsTheFrame : Obligations.EncReqBuildsTheFrame :=
  ⟨fun _ _ _ => rfl, fun op opd _ h => exec_encReq_of_unmet (preEncReq_eq_false.mpr h) op opd,
    fun op opd _ hf hp => exec_encReq_of_met (preEncReq_eq_true.mpr ⟨hf, hp⟩) op opd⟩

/-- Settles O5: past the precondition, the transport's answer decides both the bytes on the line and the flags. -/
theorem txSendWritesTheFrame : Obligations.TxSendWritesTheFrame := by
  refine ⟨fun _ _ _ => rfl, fun _ h => exec_txSend_of_unmet (preTxSend_eq_false.mpr h), ?ok, ?fail⟩
  case ok =>
    intro s hf hv hp hw
    calc exec .txSend s
      _ = sendRequest s := exec_txSend_of_met (preTxSend_eq_true.mpr ⟨hf, hv, hp⟩)
      _ = .next (markSent s) := sendRequest_of_ok hw
      _ = _ := by rw [markSent, afterWrite_of_ok hw]
  case fail =>
    intro s k hf hv hp hw
    calc exec .txSend s
      _ = sendRequest s := exec_txSend_of_met (preTxSend_eq_true.mpr ⟨hf, hv, hp⟩)
      _ = .next (failWrite s) := sendRequest_of_fail hw
      _ = _ := by rw [failWrite, afterWrite_of_fail hw, raiseFault]

end Sys2Proof.Machine
end

section
/-! DEC: the fields of a response frame, and what `decode_response` accepts (42_frame_decode.md R140). -/

namespace Sys2Proof.Machine

/-! ### The fields by shifts, as R140 writes them -/

/-- The CRC field, low byte first: `tx = F[6] | (F[7] << 8)`. -/
theorem crcField_eq_or_shiftLeft (F : Frame) : crcField F = F.f6.setWidth 16 ||| F.f7.setWidth 16 <<< 8 :=
  calc crcField F
    _ = (F.f7 ++ F.f6).setWidth 16 := (BitVec.setWidth_eq (F.f7 ++ F.f6)).symm
    _ = F.f7.setWidth 16 <<< 8 ||| F.f6.setWidth 16 := BitVec.setWidth_append_eq_shiftLeft_setWidth_or
    _ = _ := BitVec.or_comm _ _

/-- R140 names the lowest byte first, a concatenation the highest. -/
theorem or_or_or_reverse {w : Nat} (x y z t : BitVec w) : x ||| y ||| z ||| t = t ||| z ||| y ||| x := by
  ac_rfl

/-- The operand, low byte first: `opd = F[2] | (F[3] << 8) | (F[4] << 16) | (F[5] << 24)`. -/
theorem responseOperand_eq_or_shiftLeft (F : Frame) :
    responseOperand F =
      F.f2.setWidth 32 ||| F.f3.setWidth 32 <<< 8 ||| F.f4.setWidth 32 <<< 16 ||| F.f5.setWidth 32 <<< 24 :=
  calc responseOperand F
    _ = (F.f5 ++ F.f4 ++ F.f3 ++ F.f2).setWidth 32 := (BitVec.setWidth_eq (F.f5 ++ F.f4 ++ F.f3 ++ F.f2)).symm
    _ = F.f5.setWidth 32 <<< 24 ||| F.f4.setWidth 32 <<< 16 ||| F.f3.setWidth 32 <<< 8 ||| F.f2.setWidth 32 :=
      BitVec.setWidth_append_append_append_eq_shiftLeft_setWidth_or
    _ = _ := or_or_or_reverse _ _ _ _

/-! ### What is accepted -/

/-- A CRC determines the two bytes of its field (20_memory.md R55). -/
theorem crcField_eq_iff (F : Frame) (c : Crc) :
    crcField F = c ↔ F.f6 = c.extractLsb' 0 8 ∧ F.f7 = c.extractLsb' 8 8 := by
  constructor
  case mp =>
    rintro rfl
    exact ⟨BitVec.extractLsb'_append_eq_right.symm, BitVec.extractLsb'_append_eq_left.symm⟩
  case mpr =>
    rintro ⟨hlow, hhigh⟩
    calc crcField F
      _ = c.extractLsb' 8 8 ++ c.extractLsb' 0 8 := by rw [crcField, hlow, hhigh]
      _ = c := BitVec.extractLsb'_append_extractLsb'

theorem decodeResponse_ne_none_iff_crc (F : Frame) : decodeResponse F ≠ none ↔ crcField F = frameCrc F := by
  unfold decodeResponse
  split
  case isTrue h => exact iff_of_true (Option.some_ne_none _) h.symm
  case isFalse h => exact iff_of_false (not_not_intro rfl) (Ne.symm h)

/-- Which last two bytes `decode_response` accepts, the CRC on the right not depending on them (30_encoding.md R85). -/
theorem decodeResponse_ne_none_iff_bytes (F : Frame) :
    decodeResponse F ≠ none ↔ F.f6 = (frameCrc F).extractLsb' 0 8 ∧ F.f7 = (frameCrc F).extractLsb' 8 8 :=
  (decodeResponse_ne_none_iff_crc F).trans (crcField_eq_iff F (frameCrc F))

/-- Settles O39: the fields by shifts; and the one CRC field accepted after six bytes holds the two bytes of their CRC. -/
theorem responseFrameDecoding : Obligations.ResponseFrameDecoding := by
  constructor
  case left =>
    intro F
    rw [← crcField_eq_or_shiftLeft, ← responseOperand_eq_or_shiftLeft]
    rfl
  case right =>
    intro a b c d e f
    exact ⟨(crc16 [a, b, c, d, e, f]).extractLsb' 0 8, (crc16 [a, b, c, d, e, f]).extractLsb' 8 8,
      fun g h => decodeResponse_ne_none_iff_bytes ⟨a, b, c, d, e, f, g, h⟩⟩

end Sys2Proof.Machine
end

section
/-! VAL: `VAL.RSP` alone and as the last line of `SUBMIT`, and what a response that validates is
(43_validate_and_cycle.md R150, R152, R156). -/

namespace Sys2Proof.Machine

/-! ### `VAL.RSP` -/

theorem preValRsp_eq_true {s : State} :
    preValRsp s = true ↔ s.fault = .none ∧ s.decv = true ∧ s.reqPend = true := by
  simp [preValRsp, isHalted_false, and_assoc]

theorem preValRsp_eq_false {s : State} :
    preValRsp s = false ↔ s.fault ≠ .none ∨ s.decv = false ∨ s.reqPend = false := by
  simp [preValRsp, isHalted, imp_iff_not_or, or_assoc]

theorem exec_valRsp_of_unmet {s : State} (h : preValRsp s = false) : exec .valRsp s = .refused .preconditionFails :=
  guarded_of_unmet h _

theorem exec_valRsp_of_met {s : State} (h : preValRsp s = true) : exec .valRsp s = .next (validateResponse s) :=
  guarded_of_met h _

/-- The offset as the number R151 compares with. -/
theorem lt_ackOffset_iff (b : Byte) : b < Config.ackOffset ↔ b.toNat < 127 := Iff.rfl

theorem validateResponse_of_unknown {s : State}
    (h : s.rspOp < Config.ackOffset ∨ registered (s.rspOp - Config.ackOffset) = false) :
    validateResponse s = raiseFault .unknownOpcode (latchAck s) :=
  if_pos h

theorem validateResponse_of_known {s : State} (hlt : ¬ s.rspOp < Config.ackOffset)
    (hreg : registered (s.rspOp - Config.ackOffset) = true) :
    validateResponse s =
      if s.rspOp - Config.ackOffset ≠ s.reqOp then raiseFault .ackMismatch (latchAck s)
      else acceptResponse (latchAck s) :=
  if_neg (not_or.mpr ⟨hlt, by simp [hreg]⟩)

/-- Settles O8: past the precondition, the registry test and then the comparison decide between the three ends. -/
theorem valRspChecksTheAcknowledgement : Obligations.ValRspChecksTheAcknowledgement := by
  refine ⟨fun _ _ _ => rfl, fun _ h => exec_valRsp_of_unmet (preValRsp_eq_false.mpr h), ?unknown, ?mismatch, ?valid⟩
  case unknown =>
    intro s hf hd hp hunknown
    calc exec .valRsp s
      _ = .next (validateResponse s) := exec_valRsp_of_met (preValRsp_eq_true.mpr ⟨hf, hd, hp⟩)
      _ = _ := congrArg Host.Outcome.next (validateResponse_of_unknown hunknown)
  case mismatch =>
    intro s hf hd hp hle hreg hne
    calc exec .valRsp s
      _ = .next (validateResponse s) := exec_valRsp_of_met (preValRsp_eq_true.mpr ⟨hf, hd, hp⟩)
      _ = _ := congrArg Host.Outcome.next ((validateResponse_of_known (not_lt.mpr hle) hreg).trans (if_pos hne))
  case valid =>
    intro s hf hd hp hle hreg heq
    calc exec .valRsp s
      _ = .next (validateResponse s) := exec_valRsp_of_met (preValRsp_eq_true.mpr ⟨hf, hd, hp⟩)
      _ = _ := congrArg Host.Outcome.next
        ((validateResponse_of_known (not_lt.mpr hle) hreg).trans (if_neg (not_not_intro heq)))

/-! ### Ends without a fault -/

/-- Only the third end of `VAL.RSP` leaves `FAULT = 0`. -/
theorem validateResponse_without_fault {s : State} (h : (validateResponse s).fault = .none) :
    registered (s.rspOp - Config.ackOffset) = true ∧ s.rspOp - Config.ackOffset = s.reqOp ∧
      validateResponse s = acceptResponse (latchAck s) := by
  obtain ⟨-, hv⟩ | ⟨-, -, -, hv⟩ | ⟨-, hreg, heq, hv⟩ := validateResponse_cases s
  · simp [hv] at h
  · simp [hv] at h
  · exact ⟨hreg, heq, hv⟩

/-- A `DEC.RSP` that ends without a fault leaves the response registers agreeing with `RXF`, whatever they held. -/
theorem responseDecoded_of_decRsp_without_fault {s t : State} (h : exec .decRsp s = .next t) (hf : t.fault = .none) :
    ResponseDecoded t := by
  obtain ⟨-, ⟨⟩⟩ := (guarded_eq_next _ _ t).mp h
  obtain ⟨hcrc, hc⟩ | ⟨-, hc⟩ := checkResponse_cases s
  · rw [hc]
    exact fun _ => ⟨rfl, rfl, rfl, hcrc⟩
  · simp [hc] at hf

/-- A sequence that ends without a fault ran its last command, from a state without one. -/
theorem thenUnlessFault_without_fault {o : Out} {k : State → Out} {t : State} (h : thenUnlessFault o k = .next t)
    (hf : t.fault = .none) : ∃ u, o = .next u ∧ u.fault = .none ∧ k u = .next t := by
  obtain ⟨u, hu, ⟨hne, rfl⟩ | ⟨hnone, hk⟩⟩ := (thenUnlessFault_eq_next o k t).mp h
  · exact absurd hf hne
  · exact ⟨u, hu, hnone, hk⟩

/-- A `SUBMIT` without a fault ends with the `VAL.RSP` of a response that has just been decoded. -/
theorem submit_without_fault {op : Byte} {opd : Operand} {s t : State} (h : exec (.submit op opd) s = .next t)
    (hf : t.fault = .none) : ∃ u, ResponseDecoded u ∧ exec .valRsp u = .next t := by
  obtain ⟨-, hseq⟩ := (guarded_eq_next _ _ t).mp h
  obtain ⟨u, hseq, huf, hval⟩ := thenUnlessFault_without_fault hseq hf
  obtain ⟨v, -, -, hdec⟩ := thenUnlessFault_without_fault hseq huf
  exact ⟨u, responseDecoded_of_decRsp_without_fault hdec huf, hval⟩

/-- R150 of one `VAL.RSP`: the comparison gives the opcode, the decoding before it the two CRCs. -/
theorem valRsp_without_fault {s t : State} (hdecoded : ResponseDecoded s) (h : exec .valRsp s = .next t)
    (hf : t.fault = .none) :
    t.rspv = true ∧ t.rspOp = t.reqOp + Config.ackOffset ∧ frameCrc t.rxf = t.rspCrc ∧ t.rspCrc = crcField t.rxf ∧
      t.rspOp = t.rxf.f1 ∧ registered t.reqOp = true := by
  obtain ⟨hpre, ⟨⟩⟩ := (guarded_eq_next _ _ t).mp h
  obtain ⟨-, hdecv, -⟩ := preValRsp_eq_true.mp hpre
  obtain ⟨hop, -, hfield, hcrc⟩ := hdecoded hdecv
  obtain ⟨hreg, hack, hv⟩ := validateResponse_without_fault hf
  have hoffset : s.rspOp = s.reqOp + Config.ackOffset := by rw [← hack, BitVec.sub_add_cancel]
  rw [hv]
  exact ⟨rfl, hoffset, hcrc.trans hfield.symm, hfield, hop, hack ▸ hreg⟩

/-- Settles O25. `VAL.RSP` takes the decoded response from the sound state, `SUBMIT` from its own `DEC.RSP`. -/
theorem validatedResponseMeetsTheInvariant : Obligations.ValidatedResponseMeetsTheInvariant := by
  rintro i s t hs (rfl | ⟨op, opd, rfl⟩) he hf
  · exact valRsp_without_fault hs.decoded he hf
  · obtain ⟨u, hu, hval⟩ := submit_without_fault he hf
    exact valRsp_without_fault hu hval hf

end Sys2Proof.Machine
end

section
/-! The result of a cycle on the ports, and how long it stays there (43_validate_and_cycle.md R153). -/

namespace Sys2Proof.Machine

/-! ### The ports under `RSPV` -/

theorem cycleResult_of_valid {s : State} (hv : s.rspv = true) (hd : s.decv = true) :
    cycleResult s = some (s.ackOp, s.rspOpd) := by
  simp [cycleResult, portAckOp, ackPortValid, portRspOpd, responsePortsValid, hv, hd]

theorem cycleResult_of_not_valid {s : State} (hv : s.rspv = false) : cycleResult s = none := by
  simp [cycleResult, hv]

/-- What the thirteen words of 95_test_vectors.md part 4 say under `RSPV`, by the bits of the word: with a fault too. -/
theorem flags_of_rspv {s : State} (hs : FlagsReachable s) (hv : s.rspv = true) :
    s.decv = true ∧ s.reqPend = false := by
  have words : ∀ w ∈ reachableStatus, w.getLsbD 4 = true → w.getLsbD 3 = true ∧ w.getLsbD 1 = false := by decide
  have hbits := words (statusWord s) hs
  rw [statusWord_getLsbD, statusWord_getLsbD, statusWord_getLsbD] at hbits
  exact hbits hv

/-- Two states that offer the same result: the registers the ports show and the flags under which they show them. -/
structure SameResult (s t : State) : Prop where
  rspv : t.rspv = s.rspv
  decv : t.decv = s.decv
  ackOp : t.ackOp = s.ackOp
  rspOpd : t.rspOpd = s.rspOpd

theorem cycleResult_of_sameResult {s t : State} (h : SameResult s t) (hv : s.rspv = true) (hd : s.decv = true) :
    cycleResult t = some (s.ackOp, s.rspOpd) ∧ t.rspv = true := by
  have hvt : t.rspv = true := h.rspv.trans hv
  refine ⟨?_, hvt⟩
  rw [cycleResult_of_valid hvt (h.decv.trans hd), h.ackOp, h.rspOpd]

/-! ### What keeps the result -/

theorem sameResult_latchRequest (op : Byte) (opd : Operand) (s : State) : SameResult s (latchRequest op opd s) :=
  ⟨rfl, rfl, rfl, rfl⟩

theorem sameResult_of_buildRequestFrame {op : Byte} {opd : Operand} {crc : Crc} {s t : State}
    (h : buildRequestFrame op opd crc s = .next t) : SameResult s t := by
  unfold buildRequestFrame at h
  split at h
  case isTrue =>
    obtain ⟨-, ⟨⟩⟩ := (guarded_eq_next _ _ t).mp h
    exact sameResult_latchRequest op opd s
  case isFalse => cases h

/-- A write that is not taken has one end: the fault. -/
theorem sendRequest_of_not_ok {s t : State} (hw : nextWriteAnswer s.link ≠ .ok) (h : sendRequest s = .next t) :
    t = failWrite s := by
  obtain ⟨hok, -⟩ | ⟨-, ht⟩ | ⟨-, -, ht⟩ := (sendRequest_eq_next s t).mp h
  · exact absurd hok hw
  · exact ht
  · exact ht

/-- Decoding the frame again writes the operand and the flag that are there already (42_frame_decode.md R144). -/
theorem sameResult_checkResponse {s : State} (hdecoded : ResponseDecoded s) (hd : s.decv = true) :
    SameResult s (checkResponse s) := by
  obtain ⟨-, hopd, -, hcrc⟩ := hdecoded hd
  obtain ⟨-, hc⟩ | ⟨hne, -⟩ := checkResponse_cases s
  · rw [hc]
    exact ⟨rfl, hd.symm, rfl, hopd.symm⟩
  · exact absurd hcrc hne

/-- A sequence whose first part never ends without a fault is that part. -/
theorem thenUnlessFault_of_faulting {o : Out} (h : ∀ u, o = .next u → u.fault ≠ .none) (k : State → Out) :
    thenUnlessFault o k = o := by
  cases o with
  | next u => exact thenUnlessFault_halted (h u rfl) k
  | fault f => rfl
  | refused r => rfl

theorem preSubmit_eq_true {s : State} : preSubmit s = true ↔ s.fault = .none ∧ s.reqPend = false := by
  simp [preSubmit, isHalted_false]

/-- A `SUBMIT` whose write is not taken ends as its `TX.SEND` does (43_validate_and_cycle.md R157). -/
theorem exec_submit_of_not_ok {op : Byte} {opd : Operand} {s : State} (hf : s.fault = .none) (hp : s.reqPend = false)
    (hw : nextWriteAnswer s.link ≠ .ok) : exec (.submit op opd) s = sendRequest (latchRequest op opd s) := by
  have faulting : ∀ u, sendRequest (latchRequest op opd s) = .next u → u.fault ≠ .none := by
    intro u hu
    simp [sendRequest_of_not_ok (s := latchRequest op opd s) hw hu]
  have sent : thenUnlessFault (execEncReq op opd s) execTxSend = sendRequest (latchRequest op opd s) :=
    calc thenUnlessFault (execEncReq op opd s) execTxSend
      _ = thenUnlessFault (.next (latchRequest op opd s)) execTxSend :=
        congrArg (thenUnlessFault · execTxSend) (exec_encReq_of_met (preEncReq_eq_true.mpr ⟨hf, hp⟩) op opd)
      _ = execTxSend (latchRequest op opd s) := thenUnlessFault_next (s := latchRequest op opd s) hf _
      _ = sendRequest (latchRequest op opd s) := exec_txSend_of_met (preTxSend_eq_true.mpr ⟨hf, rfl, hp⟩)
  refine (guarded_of_met (preSubmit_eq_true.mpr ⟨hf, hp⟩) _).trans ?_
  rw [sent, thenUnlessFault_of_faulting faulting, thenUnlessFault_of_faulting faulting,
    thenUnlessFault_of_faulting faulting]

/-- Under `RSPV` no instruction changes the result but a write that is taken: `RX.LOAD` and `VAL.RSP` are refused, there
being no request outstanding. -/
theorem exec_sameResult {i : Instr} {s t : State} (hs : Sound s) (hv : s.rspv = true)
    (hw : i = .txSend ∨ (∃ op opd, i = .submit op opd) → nextWriteAnswer s.link ≠ .ok) (he : exec i s = .next t) :
    SameResult s t := by
  obtain ⟨hd, hp⟩ := flags_of_rspv hs.flags hv
  cases i with
  | crcClr | crcByte | encReq =>
    obtain ⟨-, ⟨⟩⟩ := (guarded_eq_next _ _ t).mp he
    exact ⟨rfl, rfl, rfl, rfl⟩
  | txSend =>
    obtain ⟨-, hsend⟩ := (guarded_eq_next _ _ t).mp he
    obtain rfl := sendRequest_of_not_ok (hw (.inl rfl)) hsend
    exact ⟨rfl, rfl, rfl, rfl⟩
  | rxLoad =>
    obtain ⟨hpre, -⟩ := (guarded_eq_next _ _ t).mp he
    simp [preRxLoad, hp] at hpre
  | decRsp =>
    obtain ⟨-, ⟨⟩⟩ := (guarded_eq_next _ _ t).mp he
    exact sameResult_checkResponse hs.decoded hd
  | valRsp =>
    obtain ⟨hpre, -⟩ := (guarded_eq_next _ _ t).mp he
    simp [preValRsp, hp] at hpre
  | submit op opd =>
    have hok : nextWriteAnswer s.link ≠ .ok := hw (.inr ⟨op, opd, rfl⟩)
    obtain ⟨hpre, -⟩ := (guarded_eq_next _ _ t).mp he
    obtain ⟨hf, -⟩ := preSubmit_eq_true.mp hpre
    rw [exec_submit_of_not_ok hf hp hok] at he
    obtain rfl := sendRequest_of_not_ok (s := latchRequest op opd s) hok he
    exact ⟨rfl, rfl, rfl, rfl⟩
  | req | reqHeartbeat | reqTecTemperature => exact sameResult_of_buildRequestFrame he
  | nop | rsp | rspHeartbeat | rspTecTemperature =>
    cases he
    exact ⟨rfl, rfl, rfl, rfl⟩

/-- Settles O28: what the ports show depends on no more than `SameResult` compares, and a write that is taken clears
`RSPV`. -/
theorem resultIsHeldUntilTheNextSend : Obligations.ResultIsHeldUntilTheNextSend := by
  refine ⟨?offered, ?held, ?ended⟩
  case offered =>
    intro s hs hv
    obtain ⟨hd, -⟩ := flags_of_rspv hs.flags hv
    exact cycleResult_of_valid hv hd
  case held =>
    intro i s t hs hv hw he
    obtain ⟨hd, -⟩ := flags_of_rspv hs.flags hv
    exact cycleResult_of_sameResult (exec_sameResult hs hv hw he) hv hd
  case ended =>
    intro s t hw he
    obtain ⟨-, hsend⟩ := (guarded_eq_next _ _ t).mp he
    rw [sendRequest_of_ok hw] at hsend
    cases hsend
    exact cycleResult_of_not_valid rfl

end Sys2Proof.Machine
end

section
/-! The heartbeat's operand as the host reads it (45_host_contract.md R176, R188): a list of places in the table of
conditions, which the interpretation turns into names. -/

namespace Sys2Proof.Machine

/-! ### The conditions of an operand -/

@[simp] theorem mem_heartbeatBits {a : Operand} {k : Fin 18} : k ∈ heartbeatBits a ↔ a.getLsbD k = true := by
  simp [heartbeatBits]

/-- Table order: a list of conditions is the table with places left out. -/
theorem heartbeatBits_sublist_finRange (a : Operand) : (heartbeatBits a).Sublist (List.finRange 18) :=
  List.filter_sublist

theorem heartbeatBits_pairwise_lt (a : Operand) : (heartbeatBits a).Pairwise (· < ·) :=
  (List.pairwise_lt_finRange 18).sublist (heartbeatBits_sublist_finRange a)

theorem heartbeatBits_sublist_of_imp {a b : Operand}
    (h : ∀ k : Fin 18, a.getLsbD k = true → b.getLsbD k = true) : (heartbeatBits a).Sublist (heartbeatBits b) :=
  List.monotone_filter_right (List.finRange 18) h

/-- Only the bits 17:0 count. -/
theorem heartbeatBits_congr {a b : Operand} (h : ∀ k : Fin 18, a.getLsbD k = b.getLsbD k) :
    heartbeatBits a = heartbeatBits b :=
  List.filter_congr fun k _ => h k

theorem getLsbD_conditionMask (k : Fin 18) : (0x3FFFF : Operand).getLsbD k = true := by
  revert k
  decide

theorem getLsbD_and_conditionMask (a : Operand) (k : Fin 18) : (a &&& 0x3FFFF).getLsbD k = a.getLsbD k := by
  rw [BitVec.getLsbD_and, getLsbD_conditionMask, Bool.and_true]

theorem heartbeatBits_conditionMask : heartbeatBits 0x3FFFF = List.finRange 18 :=
  List.filter_eq_self.mpr fun k _ => getLsbD_conditionMask k

@[simp] theorem heartbeatBits_zero : heartbeatBits 0 = [] :=
  List.eq_nil_iff_forall_not_mem.mpr fun k hk => by simp at hk

theorem heartbeatBits_sublist_or (a b : Operand) : (heartbeatBits a).Sublist (heartbeatBits (a ||| b)) :=
  heartbeatBits_sublist_of_imp fun k hk => by rw [BitVec.getLsbD_or, hk, Bool.true_or]

theorem heartbeatBits_of_and_eq {a b : Operand} (h : a &&& 0x3FFFF = b &&& 0x3FFFF) :
    heartbeatBits a = heartbeatBits b :=
  heartbeatBits_congr fun k => by rw [← getLsbD_and_conditionMask a k, h, getLsbD_and_conditionMask]

/-! ### The interpretation of opcode 0 -/

/-- Opcode 0 begins the registry and the heartbeat begins the named operations, so the first names the second, whatever
order the other codes take (R171). -/
theorem operationOf_of_val_eq_zero {c : OpCode} (h : c.val = 0) : operationOf c = .heartbeat := by
  obtain rfl : c = ⟨Config.heartbeat, registryHolds_heartbeat _⟩ := Subtype.ext h
  obtain ⟨rest, begins⟩ := heldCodes_begin
  have first : heldCodes.idxOf ⟨Config.heartbeat, registryHolds_heartbeat _⟩ = 0 := by
    rw [begins, List.idxOf_cons_self]
  rw [operationOf, first]
  rfl

theorem interpret_of_heartbeat {c : OpCode} (h : operationOf c = .heartbeat) (a : Operand) :
    interpret c a = .conditions ((heartbeatBits a).map Config.conditionName) := by
  rw [interpret, h]
  rfl

/-- Settles O57, from the lemmas on the list and the operation that opcode 0 names. -/
theorem heartbeatListsTheSetConditionsInTableOrder : Obligations.HeartbeatListsTheSetConditionsInTableOrder :=
  ⟨fun _ _ => mem_heartbeatBits, heartbeatBits_conditionMask, heartbeatBits_pairwise_lt, heartbeatBits_sublist_or,
    fun _ _ => heartbeatBits_of_and_eq, heartbeatBits_zero, fun _ a h =>
      interpret_of_heartbeat (operationOf_of_val_eq_zero h) a⟩

end Sys2Proof.Machine
end

section
/-! The output ports (10_state.md R37): what they show while they are valid (70_reset_and_hazards.md R240), and the two
level outputs (60_exceptions.md R207). -/

namespace Sys2Proof.Machine

/-! ### The ports under their valid flags -/

theorem responsePortsValid_eq_true {s : State} :
    responsePortsValid s = true ↔ s.decv = true ∨ s.fault = .checksumMismatch := by
  simp [responsePortsValid]

theorem ackPortValid_eq_true {s : State} :
    ackPortValid s = true ↔ s.rspv = true ∨ s.fault = .unknownOpcode ∨ s.fault = .ackMismatch := by
  simp [ackPortValid, or_assoc]

theorem responsePorts_of_valid {s : State} (h : responsePortsValid s = true) :
    portRspOp s = s.rspOp ∧ portRspOpd s = s.rspOpd ∧ portRspCrc s = s.rspCrc :=
  ⟨if_pos h, if_pos h, if_pos h⟩

theorem portAckOp_of_valid {s : State} (h : ackPortValid s = true) : portAckOp s = s.ackOp :=
  if_pos h

/-! ### The level outputs -/

theorem flagBit_eq_one {b : Bool} : flagBit b = 1 ↔ b = true := by
  cases b <;> decide

theorem portFault_eq_one {s : State} : portFault s = 1 ↔ s.fault ≠ .none :=
  flagBit_eq_one.trans isHalted_true

theorem isSome_cycleResult (s : State) : (cycleResult s).isSome = s.rspv := by
  cases h : s.rspv <;> simp [cycleResult, h]

/-- Bit 4 of the port is `RSPV`, and so is the offer of a result. -/
theorem portStatus_getLsbD_four (s : State) : (portStatus s).getLsbD 4 = (cycleResult s).isSome :=
  (statusWord_getLsbD s 4).trans (isSome_cycleResult s).symm

/-- Settles O54, port by port. -/
theorem portsShowTheRegisters : Obligations.PortsShowTheRegisters :=
  fun s =>
    ⟨fun h => responsePorts_of_valid (responsePortsValid_eq_true.mpr h),
      fun h => portAckOp_of_valid (ackPortValid_eq_true.mpr h), rfl, portFault_eq_one,
      Bool.eq_iff_iff.mp (portStatus_getLsbD_four s)⟩

end Sys2Proof.Machine
end

section
/-! Where the block refuses a command, and what `rst` leaves (70_reset_and_hazards.md R231, R232, R236). -/

namespace Sys2Proof.Machine

/-! ### `rst` -/

/-- `STATUS` of R231, field by field. -/
theorem statusWord_resetBlock (s : State) : statusWord (resetBlock s) = 0x000 :=
  calc statusWord (resetBlock s)
    _ = faultNumber .none ++ xdirBit .write ++ flagBit false ++ flagBit false ++ flagBit false ++ flagBit false ++
        flagBit false := rfl
    _ = 0x000 := by decide

/-- Settles O16: the step is `resetBlock`, which writes neither the transport nor what is presented next. -/
theorem resetKeepsTheTransport : Obligations.ResetKeepsTheTransport :=
  fun s rest h =>
    ⟨resetBlock { s with inputs := rest }, step_on_rst h, resetBlock_link _, resetBlock_inputs _, resetBlock_crc _,
      resetBlock_txv _, resetBlock_reqPend _, resetBlock_rxv _, resetBlock_decv _, resetBlock_rspv _,
      resetBlock_fault _, resetBlock_xdir _, statusWord_resetBlock _⟩

/-! ### The preconditions of the table -/

theorem preRxLoad_eq_true {s : State} :
    preRxLoad s = true ↔ s.fault = .none ∧ s.reqPend = true ∧ s.rxv = false := by
  simp [preRxLoad, isHalted_false, and_assoc]

theorem preDecRsp_eq_true {s : State} : preDecRsp s = true ↔ s.fault = .none ∧ s.rxv = true := by
  simp [preDecRsp, isHalted_false]

/-- A guarded command is refused exactly where its precondition fails, if what it does past the precondition is not. -/
theorem exists_guarded_eq_refused {met : Bool} {o : Out} (h : met = true → ∀ r, o ≠ .refused r) :
    (∃ r, guarded met o = .refused r) ↔ ¬ met = true := by
  cases met with
  | false => exact iff_of_true ⟨_, guarded_false o⟩ Bool.false_ne_true
  | true => exact iff_of_false (not_exists.mpr (h rfl)) (not_not_intro rfl)

theorem next_ne_refused (t : State) (r : Refusal) : (.next t : Out) ≠ .refused r :=
  nofun

/-! ### A sequence that is not refused part-way -/

/-- An outcome that is no refusal, and that meets `P` where it is a state without a fault: what one line of `SUBMIT` has to
say to the next (43_validate_and_cycle.md R156). -/
structure GoesOnWith (P : State → Prop) (o : Out) : Prop where
  not_refused : ∀ r, o ≠ .refused r
  holds : ∀ t, o = .next t → t.fault = .none → P t

theorem goesOnWith_next {P : State → Prop} {t : State} (h : t.fault = .none → P t) : GoesOnWith P (.next t) where
  not_refused := next_ne_refused t
  holds := by
    rintro _ ⟨⟩
    exact h

/-- Two lines of a sequence: the second starts where the first ended, or is not reached. -/
theorem goesOnWith_thenUnlessFault {P Q : State → Prop} {o : Out} {k : State → Out} (ho : GoesOnWith P o)
    (hk : ∀ u, u.fault = .none → P u → GoesOnWith Q (k u)) : GoesOnWith Q (thenUnlessFault o k) where
  not_refused r := by
    cases o with
    | next u =>
      by_cases hf : u.fault = .none
      · rw [thenUnlessFault_next hf]
        exact (hk u hf (ho.holds u rfl hf)).not_refused r
      · rw [thenUnlessFault_halted hf]
        exact next_ne_refused u r
    | fault f => nofun
    | refused r' => exact absurd rfl (ho.not_refused r')
  holds t ht hf := by
    obtain ⟨u, hu, huf, hkt⟩ := thenUnlessFault_without_fault ht hf
    exact (hk u huf (ho.holds u hu huf)).holds t hkt hf

/-! ### The lines of `SUBMIT`, each leaving the flags the next one asks for -/

theorem goesOnWith_encReq {s : State} (hf : s.fault = .none) (hp : s.reqPend = false) (op : Byte) (opd : Operand) :
    GoesOnWith (fun t => t.txv = true ∧ t.reqPend = false) (execEncReq op opd s) := by
  rw [execEncReq, guarded_of_met (preEncReq_eq_true.mpr ⟨hf, hp⟩)]
  exact goesOnWith_next fun _ => ⟨rfl, hp⟩

theorem goesOnWith_txSend {s : State} (hf : s.fault = .none) (hv : s.txv = true) (hp : s.reqPend = false) :
    GoesOnWith (fun t => t.reqPend = true ∧ t.rxv = false) (execTxSend s) := by
  rw [execTxSend, guarded_of_met (preTxSend_eq_true.mpr ⟨hf, hv, hp⟩)]
  refine ⟨sendRequest_not_refused s, fun t ht htf => ?_⟩
  obtain ⟨-, rfl⟩ | ⟨-, rfl⟩ | ⟨-, -, rfl⟩ := (sendRequest_eq_next s t).mp ht
  · exact ⟨rfl, rfl⟩
  · cases htf
  · cases htf

theorem goesOnWith_rxLoad {s : State} (hf : s.fault = .none) (hp : s.reqPend = true) (hv : s.rxv = false) :
    GoesOnWith (fun t => t.reqPend = true ∧ t.rxv = true) (execRxLoad s) := by
  rw [execRxLoad, guarded_of_met (preRxLoad_eq_true.mpr ⟨hf, hp, hv⟩)]
  refine ⟨loadResponse_not_refused s, fun t ht htf => ?_⟩
  obtain ⟨F, -, rfl⟩ | ⟨-, rfl⟩ | ⟨-, -, rfl⟩ := (loadResponse_eq_next s t).mp ht
  · exact ⟨hp, rfl⟩
  · cases htf
  · cases htf

theorem goesOnWith_decRsp {s : State} (hf : s.fault = .none) (hp : s.reqPend = true) (hv : s.rxv = true) :
    GoesOnWith (fun t => t.decv = true ∧ t.reqPend = true) (execDecRsp s) := by
  rw [execDecRsp, guarded_of_met (preDecRsp_eq_true.mpr ⟨hf, hv⟩)]
  refine goesOnWith_next fun hcf => ?_
  obtain ⟨-, hc⟩ | ⟨-, hc⟩ := checkResponse_cases s <;> rw [hc] at hcf ⊢
  · exact ⟨rfl, hp⟩
  · cases hcf

theorem goesOnWith_valRsp {s : State} (hf : s.fault = .none) (hd : s.decv = true) (hp : s.reqPend = true) :
    GoesOnWith (fun _ => True) (execValRsp s) := by
  rw [execValRsp, guarded_of_met (preValRsp_eq_true.mpr ⟨hf, hd, hp⟩)]
  exact goesOnWith_next fun _ => trivial

/-- The five lines of `SUBMIT`, where its precondition holds. -/
theorem goesOnWith_cycle {s : State} (hf : s.fault = .none) (hp : s.reqPend = false) (op : Byte) (opd : Operand) :
    GoesOnWith (fun _ => True)
      (thenUnlessFault (thenUnlessFault (thenUnlessFault (thenUnlessFault
        (execEncReq op opd s) execTxSend) execRxLoad) execDecRsp) execValRsp) := by
  have encoded := goesOnWith_encReq hf hp op opd
  have sent := goesOnWith_thenUnlessFault encoded fun _ hf ⟨hv, hp⟩ => goesOnWith_txSend hf hv hp
  have loaded := goesOnWith_thenUnlessFault sent fun _ hf ⟨hp, hv⟩ => goesOnWith_rxLoad hf hp hv
  have decoded := goesOnWith_thenUnlessFault loaded fun _ hf ⟨hp, hv⟩ => goesOnWith_decRsp hf hp hv
  exact goesOnWith_thenUnlessFault decoded fun _ hf ⟨hd, hp⟩ => goesOnWith_valRsp hf hd hp

theorem exists_submit_eq_refused (op : Byte) (opd : Operand) (s : State) :
    (∃ r, exec (.submit op opd) s = .refused r) ↔ ¬ preSubmit s = true :=
  exists_guarded_eq_refused fun h => by
    obtain ⟨hf, hp⟩ := preSubmit_eq_true.mp h
    exact (goesOnWith_cycle hf hp op opd).not_refused

/-- Settles O14: no command is refused past its precondition, `SUBMIT` because each of its lines leaves the flags that the
next one asks for. -/
theorem commandsAreRefusedExactlyOutsideTheirPrecondition :
    Obligations.CommandsAreRefusedExactlyOutsideTheirPrecondition := by
  intro s b op opd
  refine ⟨next_ne_refused s, ?crcClr, ?crcByte, ?encReq, ?txSend, ?rxLoad, ?decRsp, ?valRsp, ?submit⟩
  case crcClr =>
    exact (exists_guarded_eq_refused fun _ => next_ne_refused _).trans (not_congr preCrcClr_eq_true)
  case crcByte =>
    exact (exists_guarded_eq_refused fun _ => next_ne_refused _).trans (not_congr preCrcByte_eq_true)
  case encReq =>
    exact (exists_guarded_eq_refused fun _ => next_ne_refused _).trans (not_congr preEncReq_eq_true)
  case txSend =>
    exact (exists_guarded_eq_refused fun _ => sendRequest_not_refused s).trans (not_congr preTxSend_eq_true)
  case rxLoad =>
    exact (exists_guarded_eq_refused fun _ => loadResponse_not_refused s).trans (not_congr preRxLoad_eq_true)
  case decRsp =>
    exact (exists_guarded_eq_refused fun _ => next_ne_refused _).trans (not_congr preDecRsp_eq_true)
  case valRsp =>
    exact (exists_guarded_eq_refused fun _ => next_ne_refused _).trans (not_congr preValRsp_eq_true)
  case submit =>
    exact (exists_submit_eq_refused op opd s).trans (not_congr preSubmit_eq_true)

end Sys2Proof.Machine
end

section
/-! The decoder and the encoder (30_encoding.md): a frame is its fields, in both directions and both byte orders, so decoding
undoes encoding on every well-formed instruction and encoding gives back every bit that was decoded. -/

namespace Sys2Proof.Machine

/-! ### A frame is its fields -/

theorem bytes_of_requestOperand (F : Frame) :
    (requestOperand F).extractLsb' 24 8 = F.f2 ∧ (requestOperand F).extractLsb' 16 8 = F.f3 ∧
      (requestOperand F).extractLsb' 8 8 = F.f4 ∧ (requestOperand F).extractLsb' 0 8 = F.f5 := by
  unfold requestOperand
  refine ⟨?_, ?_, ?_, ?_⟩ <;> ext i hi <;> simp [BitVec.getElem_extractLsb'] <;> grind

/-- A response's operand is that of the request with the four bytes in the opposite order. -/
theorem bytes_of_responseOperand (F : Frame) :
    (responseOperand F).extractLsb' 24 8 = F.f5 ∧ (responseOperand F).extractLsb' 16 8 = F.f4 ∧
      (responseOperand F).extractLsb' 8 8 = F.f3 ∧ (responseOperand F).extractLsb' 0 8 = F.f2 :=
  bytes_of_requestOperand { F with f2 := F.f5, f3 := F.f4, f4 := F.f3, f5 := F.f2 }

theorem requestFrame_of_fields (F : Frame) : requestFrame F.f0 F.f1 (requestOperand F) (crcField F) = F := by
  obtain ⟨h2, h3, h4, h5⟩ := bytes_of_requestOperand F
  obtain ⟨h6, h7⟩ := (crcField_eq_iff F _).mp rfl
  rw [requestFrame, h2, h3, h4, h5, ← h6, ← h7]

theorem responseFrame_of_fields (F : Frame) : responseFrame F.f0 F.f1 (responseOperand F) (crcField F) = F := by
  obtain ⟨h5, h4, h3, h2⟩ := bytes_of_responseOperand F
  obtain ⟨h6, h7⟩ := (crcField_eq_iff F _).mp rfl
  rw [responseFrame, h2, h3, h4, h5, ← h6, ← h7]

/-- A pattern read as a frame and built again from the fields of a request. -/
theorem frameToPattern_requestFrame_of_fields {p : BitVec 64} {sync op : Byte}
    (hs : (patternToFrame p).f0 = sync) (hop : (patternToFrame p).f1 = op) :
    frameToPattern (requestFrame sync op (requestOperand (patternToFrame p)) (crcField (patternToFrame p))) = p := by
  rw [← hs, ← hop, requestFrame_of_fields, frameToPattern_patternToFrame]

theorem frameToPattern_responseFrame_of_fields {p : BitVec 64} {rop : Byte} (hop : (patternToFrame p).f1 = rop) :
    frameToPattern (responseFrame (patternToFrame p).f0 rop (responseOperand (patternToFrame p))
      (crcField (patternToFrame p))) = p := by
  rw [← hop, responseFrame_of_fields, frameToPattern_patternToFrame]

/-! ### Decoding what was encoded -/

theorem decode_encodeRequestRow (op : Byte) (opd : Operand) (crc : Crc) :
    decode (encodeRequestRow op opd crc) =
      if op = Config.heartbeat then .ok (.reqHeartbeat opd crc)
      else if op = Config.tecTemperature then .ok (.reqTecTemperature opd crc)
      else .ok (.req op opd crc) := by
  simp only [encodeRequestRow, decode, patternToFrame_frameToPattern, decodeRequestFrame,
    requestOperand_requestFrame, crcField_requestFrame]
  rfl

theorem decode_encodeResponseRow (sync rop : Byte) (opd : Operand) (crc : Crc) :
    decode (encodeResponseRow sync rop opd crc) =
      .ok (if rop = responseByte Config.heartbeat then .rspHeartbeat sync opd crc
        else if rop = responseByte Config.tecTemperature then .rspTecTemperature sync opd crc
        else .rsp sync rop opd crc) := by
  simp only [encodeResponseRow, decode, patternToFrame_frameToPattern, decodeResponseFrame,
    responseOperand_responseFrame, crcField_responseFrame]
  rfl

/-- Settles O43, row by row: a command by its code, a frame by its fields and by whether a named row has its opcode. -/
theorem decodeOfEncodeIsTheInstruction : Obligations.DecodeOfEncodeIsTheInstruction := by
  intro i hwf
  cases i with
  | nop | crcClr | crcByte | encReq | txSend | rxLoad | decRsp | valRsp | submit => rfl
  | req op opd crc =>
    obtain ⟨⟨hh, ht⟩, -⟩ : (op ≠ Config.heartbeat ∧ op ≠ Config.tecTemperature) ∧ _ := by
      simpa [Instr.wellFormed, requestUnnamed] using hwf
    exact (decode_encodeRequestRow op opd crc).trans ((if_neg hh).trans (if_neg ht))
  | rsp sync rop opd crc =>
    obtain ⟨hh, ht⟩ : rop ≠ responseByte Config.heartbeat ∧ rop ≠ responseByte Config.tecTemperature := by
      simpa [Instr.wellFormed, responseUnnamed] using hwf
    exact (decode_encodeResponseRow sync rop opd crc).trans
      (congrArg Except.ok ((if_neg hh).trans (if_neg ht)))
  | reqHeartbeat opd crc => exact decode_encodeRequestRow Config.heartbeat opd crc
  | reqTecTemperature opd crc => exact decode_encodeRequestRow Config.tecTemperature opd crc
  | rspHeartbeat sync opd crc => exact decode_encodeResponseRow sync (responseByte Config.heartbeat) opd crc
  | rspTecTemperature sync opd crc => exact decode_encodeResponseRow sync (responseByte Config.tecTemperature) opd crc

/-! ### Encoding what was decoded -/

theorem encode_of_decode_request {p : BitVec 64} {i : Instr} (h : decode (.frame .request p) = .ok i) :
    encode i = .frame .request p := by
  simp only [decode, decodeRequestFrame] at h
  split at h
  case isFalse => cases h
  case isTrue hs =>
    split at h
    case isTrue hop =>
      cases h
      exact congrArg (Presented.frame .request) (frameToPattern_requestFrame_of_fields hs hop)
    case isFalse =>
      split at h
      case isTrue hop =>
        cases h
        exact congrArg (Presented.frame .request) (frameToPattern_requestFrame_of_fields hs hop)
      case isFalse =>
        cases h
        exact congrArg (Presented.frame .request) (frameToPattern_requestFrame_of_fields hs rfl)

theorem encode_of_decode_response {p : BitVec 64} {i : Instr} (h : decode (.frame .response p) = .ok i) :
    encode i = .frame .response p := by
  simp only [decode, decodeResponseFrame, Except.ok.injEq] at h
  subst h
  split
  case isTrue hop => exact congrArg (Presented.frame .response) (frameToPattern_responseFrame_of_fields hop)
  case isFalse =>
    split
    case isTrue hop => exact congrArg (Presented.frame .response) (frameToPattern_responseFrame_of_fields hop)
    case isFalse => exact congrArg (Presented.frame .response) (frameToPattern_responseFrame_of_fields rfl)

/-- The code of a command that decodes, as a literal. -/
theorem encode_of_decode_command {cmd : BitVec 4} {din op : Byte} {opd : Operand} {i : Instr}
    (h : decode (.command cmd din op opd) = .ok i) :
    encode i =
      .command cmd (if cmd = 2 then din else 0) (if cmd = 3 ∨ cmd = 8 then op else 0)
        (if cmd = 3 ∨ cmd = 8 then opd else 0) := by
  by_cases hc : 9 ≤ cmd.toNat
  · cases (decodeCommand_of_reserved hc din op opd).symm.trans h
  · have codes : ∀ c : BitVec 4, ¬ 9 ≤ c.toNat →
        c = 0 ∨ c = 1 ∨ c = 2 ∨ c = 3 ∨ c = 4 ∨ c = 5 ∨ c = 6 ∨ c = 7 ∨ c = 8 := by decide
    obtain rfl | rfl | rfl | rfl | rfl | rfl | rfl | rfl | rfl := codes cmd hc <;> cases h <;> rfl

/-- Settles O44, by direction for a frame and by code for a command. -/
theorem encodeOfDecodeIsTheWord : Obligations.EncodeOfDecodeIsTheWord := by
  refine ⟨fun d p i h => ?frame, fun cmd din op opd i h => encode_of_decode_command h⟩
  case frame =>
    cases d with
    | request => exact encode_of_decode_request h
    | response => exact encode_of_decode_response h

/-- Settles O45: the words, by evaluation of the decoder. -/
theorem writtenOutWordsDecode : Obligations.WrittenOutWordsDecode := by
  unfold Obligations.WrittenOutWordsDecode
  decide

/-! ### What is no request frame -/

theorem decode_request_of_no_sync {p : BitVec 64} (h : p.extractLsb' 56 8 ≠ 0xAA) :
    decode (.frame .request p) = .error (.requestSync (p.extractLsb' 56 8)) :=
  if_neg h

/-- Settles O60: the pattern does not decode, and the step answers with the decoder's reason. -/
theorem aRequestPatternWithoutTheSyncByteIsRefused : Obligations.ARequestPatternWithoutTheSyncByteIsRefused :=
  fun _ _ _ hp hs => step_of_decode_error hs (decode_request_of_no_sync hp)

/-! ### A request read by the response decoder -/

/-- The operand of a frame in the one byte order, from that in the other. -/
theorem bswap32_responseOperand (F : Frame) : bswap32 (responseOperand F) = requestOperand F :=
  calc bswap32 (responseOperand F)
    _ = requestOperand (responseFrame F.f0 F.f1 (responseOperand F) (crcField F)) := rfl
    _ = requestOperand F := congrArg requestOperand (responseFrame_of_fields F)

/-- Reversing the bytes is reading a request's operand as a response's, and the other way round. -/
theorem bswap32_bswap32 (v : Operand) : bswap32 (bswap32 v) = v :=
  calc bswap32 (bswap32 v)
    _ = bswap32 (responseOperand (requestFrame 0 0 v 0)) := rfl
    _ = requestOperand (requestFrame 0 0 v 0) := bswap32_responseOperand _
    _ = v := requestOperand_requestFrame 0 0 v 0

/-- The two byte orders of an operand (42_frame_decode.md R143). -/
theorem responseOperand_encodeRequest (op : Byte) (opd : Operand) :
    responseOperand (encodeRequest op opd) = bswap32 opd := rfl

theorem decodeResponse_encodeRequest (op : Byte) (opd : Operand) :
    decodeResponse (encodeRequest op opd) = some (op, bswap32 opd) :=
  if_pos (crcField_encodeRequest op opd).symm

/-- Settles O40: the CRC field is right, and only the byte order of the operand differs. -/
theorem decodingAnEncodedRequest : Obligations.DecodingAnEncodedRequest :=
  fun op opd => ⟨decodeResponse_encodeRequest op opd, bswap32_bswap32 opd⟩

theorem encodeRequest_injective {op op' : Byte} {opd opd' : Operand}
    (h : encodeRequest op opd = encodeRequest op' opd') : op = op' ∧ opd = opd' := by
  refine ⟨congrArg Frame.f1 h, ?_⟩
  calc opd
    _ = requestOperand (encodeRequest op opd) := (requestOperand_encodeRequest op opd).symm
    _ = requestOperand (encodeRequest op' opd') := congrArg requestOperand h
    _ = opd' := requestOperand_encodeRequest op' opd'

/-- Settles O41, each property by its lemma. -/
theorem encoderProperties : Obligations.EncoderProperties :=
  ⟨fun _ _ _ _ => encodeRequest_injective, fun op opd =>
    ⟨rfl, crcField_encodeRequest op opd, decodeResponse_encodeRequest op opd, crcByte_zero_0xAA⟩⟩

/-- Settles O56: packing reverses the bytes once, the encoder's big-endian order and the decoder's little-endian order
once more. -/
theorem packedFloatTravelsLittleEndian : Obligations.PackedFloatTravelsLittleEndian := by
  intro op bits F
  have hbits : responseOperand F = bits :=
    (responseOperand_encodeRequest op (packFloat bits)).trans (bswap32_bswap32 bits)
  have fields : responseFrame F.f0 F.f1 bits (crcField F) = F := hbits ▸ responseFrame_of_fields F
  exact ⟨congrArg Frame.f2 fields.symm, congrArg Frame.f3 fields.symm, congrArg Frame.f4 fields.symm,
    congrArg Frame.f5 fields.symm, hbits⟩

end Sys2Proof.Machine
end

section
/-! The CRC of byte sequences (40_crc.md R111, R113, R119): everything follows from the rounds being linear and losing no
information. A change in one byte changes the result by its own CRC, run through the rounds of the bytes behind it. -/

namespace Sys2Proof.Machine

/-! ### One round -/

/-- The polynomial has bits 12, 5 and 0. -/
theorem getLsbD_crcPoly (j : Nat) : Config.crcPoly.getLsbD j = (j == 0 || j == 5 || j == 12) := by
  by_cases hj : j < 16
  · revert j
    decide
  · rw [BitVec.getLsbD_of_ge _ _ (by omega), eq_comm]
    simp
    omega

theorem crcRound_getLsbD (a : Crc) (j : Nat) :
    (crcRound a).getLsbD j =
      ((a <<< 1).getLsbD j ^^ (a.getLsbD 15 && (j == 0 || j == 5 || j == 12))) := by
  have top : a.msb = a.getLsbD 15 := rfl
  unfold crcRound
  rw [top]
  cases a.getLsbD 15 <;> simp [getLsbD_crcPoly]

/-- Settles O31: the bits of the shift and those of the polynomial. -/
theorem crcRoundBitByBit : Obligations.CrcRoundBitByBit := by
  intro a
  refine ⟨?shift, ?zero, ?five, ?twelve, ?other⟩
  case shift =>
    have mask : a <<< 1 &&& (0xFFFF : Crc) = a <<< 1 := BitVec.and_allOnes
    rw [mask]
    rfl
  case zero => rw [crcRound_getLsbD]; simp
  case five => rw [crcRound_getLsbD]; simp
  case twelve => rw [crcRound_getLsbD]; simp
  case other =>
    intro j hj h4 h11
    have no_xor : (j == 4 || j == 11) = false := by simpa using ⟨h4, h11⟩
    rw [crcRound_getLsbD]
    simp [no_xor, Nat.succ_lt_succ hj, BitVec.getLsbD_eq_getElem (show j < 16 by omega)]

/-! ### Rounds, bytes, sequences -/

theorem crcRounds_add (m n : Nat) (a : Crc) : crcRounds (m + n) a = crcRounds n (crcRounds m a) := by
  induction m generalizing a with
  | zero => rw [Nat.zero_add, crcRounds]
  | succ m ih => rw [Nat.succ_add, crcRounds, ih, crcRounds]

/-- A difference `e` in the accumulator goes through the rounds of the byte. -/
theorem crcByte_xor_acc (a e : Crc) (b : Byte) : crcByte (a ^^^ e) b = crcByte a b ^^^ crcRounds 8 e := by
  unfold crcByte
  rw [← crcRounds_xor, BitVec.xor_assoc, BitVec.xor_comm e, ← BitVec.xor_assoc]

/-- A difference `v` in the byte is a difference in the accumulator. -/
theorem crcByte_xor_byte (a : Crc) (b v : Byte) : crcByte a (b ^^^ v) = crcByte a b ^^^ crcByte 0 v := by
  simp only [crcByte, ← crcRounds_xor, BitVec.setWidth_xor, BitVec.shiftLeft_xor_distrib, zero_xor,
    BitVec.xor_assoc]

theorem crcByte_zero_zero : crcByte 0 0 = 0 := crcByte_of_high_half 0

/-- A byte is absorbed without loss. -/
theorem crcByte_zero_eq_zero {v : Byte} (h : crcByte 0 v = 0) : v = 0 := by
  have hz : v ++ 0x00#8 = (0 : Crc) := by
    rw [← setWidth_shiftLeft_eq_append, ← zero_xor (v.setWidth 16 <<< 8)]
    exact crcRounds_eq_zero h
  calc v
    _ = (v ++ 0x00#8).extractLsb' 8 8 := BitVec.extractLsb'_append_eq_left.symm
    _ = (0 : Crc).extractLsb' 8 8 := congrArg (BitVec.extractLsb' 8 8) hz
    _ = 0 := by decide

/-- A difference in the accumulator goes through the rounds of all bytes that follow. -/
theorem foldl_crcByte_xor_acc (bs : List Byte) (a e : Crc) :
    bs.foldl crcByte (a ^^^ e) = bs.foldl crcByte a ^^^ crcRounds (8 * bs.length) e := by
  induction bs generalizing a e with
  | nil => rfl
  | cons b bs ih =>
    rw [List.foldl_cons, List.foldl_cons, crcByte_xor_acc, ih, ← crcRounds_add, List.length_cons, Nat.mul_succ,
      Nat.add_comm]

/-- What a change of one byte does to the CRC, whatever stands before it. -/
theorem crc16_xor_byte (before after : List Byte) (x v : Byte) :
    crc16 (before ++ (x ^^^ v) :: after) =
      crc16 (before ++ x :: after) ^^^ crcRounds (8 * after.length) (crcByte 0 v) := by
  simp only [crc16, List.foldl_append, List.foldl_cons, crcByte_xor_byte, foldl_crcByte_xor_acc]

/-- Settles O33: absorbing zeros into a zero accumulator leaves it zero. -/
theorem leadingZeroBytesAreInvisible : Obligations.LeadingZeroBytesAreInvisible := by
  intro n bs
  induction n with
  | zero => rfl
  | succ n ih =>
    calc crc16 (List.replicate (n + 1) 0x00 ++ bs)
      _ = (List.replicate n 0x00 ++ bs).foldl crcByte (crcByte 0 0) := rfl
      _ = crc16 (List.replicate n 0x00 ++ bs) := by rw [crcByte_zero_zero]; rfl
      _ = crc16 bs := ih

theorem crcByte_xor (a c : Crc) (x y : Byte) : crcByte (a ^^^ c) (x ^^^ y) = crcByte a x ^^^ crcByte c y := by
  have zero_acc : crcRounds 8 c ^^^ crcByte 0 y = crcByte c y := by
    rw [BitVec.xor_comm, ← crcByte_xor_acc, zero_xor]
  rw [crcByte_xor_byte, crcByte_xor_acc, BitVec.xor_assoc, zero_acc]

theorem foldl_crcByte_xor (xs ys : List Byte) (h : xs.length = ys.length) (a c : Crc) :
    (List.zipWith (fun x y => x ^^^ y) xs ys).foldl crcByte (a ^^^ c) =
      xs.foldl crcByte a ^^^ ys.foldl crcByte c := by
  induction xs generalizing ys a c with
  | nil =>
    obtain rfl := List.length_eq_zero_iff.mp h.symm
    rfl
  | cons x xs ih =>
    cases ys with
    | nil => cases h
    | cons y ys =>
      rw [List.zipWith_cons_cons, List.foldl_cons, List.foldl_cons, List.foldl_cons, crcByte_xor]
      exact ih ys (Nat.succ.inj h) _ _

/-- Settles O34, from both accumulators starting at 0. -/
theorem crc16IsLinear : Obligations.Crc16IsLinear :=
  fun xs ys h => foldl_crcByte_xor xs ys h 0 0

/-- Settles O35: the difference of the two bytes is not 0, and neither absorbing it nor any round after that makes it 0. -/
theorem oneChangedByteChangesTheCrc : Obligations.OneChangedByteChangesTheCrc := by
  intro before after x y hne heq
  have hy : y = x ^^^ (x ^^^ y) := by rw [← BitVec.xor_assoc, BitVec.xor_self, BitVec.zero_xor]
  rw [hy, crc16_xor_byte, eq_comm, xor_left_eq_self_iff] at heq
  have hdiff : x ^^^ y = 0 := crcByte_zero_eq_zero (crcRounds_eq_zero heq)
  exact hne (BitVec.xor_eq_zero_iff.mp hdiff)

/-! ### Two changed bits -/

/-- The rounds started on 1 do not come back to 1 within 47: the order of the polynomial is larger. -/
theorem crcRounds_one_ne_one : ∀ d < 48, 0 < d → crcRounds d 1 ≠ 1 := by
  decide +kernel

/-- A single bit absorbed into a zero accumulator is a single bit moved on. -/
theorem crcByte_zero_bit : ∀ k < 8, crcByte 0 (1#8 <<< k) = crcRounds (16 + k) 1 := by
  decide +kernel

theorem crcRounds_one_injective {m n : Nat} (hmn : m < n) (hn : n < m + 48) : crcRounds m 1 ≠ crcRounds n 1 := by
  intro h
  have hsplit : crcRounds n 1 = crcRounds m (crcRounds (n - m) 1) := by
    rw [← crcRounds_add, Nat.sub_add_cancel hmn.le]
  have hzero : crcRounds m (1 ^^^ crcRounds (n - m) 1) = 0 := by
    rw [crcRounds_xor, ← hsplit, ← h]
    exact BitVec.xor_self
  have hone : 1 = crcRounds (n - m) 1 := BitVec.xor_eq_zero_iff.mp (crcRounds_eq_zero hzero)
  exact crcRounds_one_ne_one (n - m) (by omega) (by omega) hone.symm

/-- The sequence with bit `n` flipped: bit `n mod 8` of byte `n / 8`. -/
def flipBit (n : Fin 48) (bs : List Byte) : List Byte :=
  bs.modify (n.val / 8) fun b => b ^^^ (1#8 <<< (n.val % 8))

/-- How many rounds a bit of six bytes goes through, counted from bit 0 of an accumulator. -/
def roundsBehind (n : Fin 48) : Nat := 8 * (5 - n.val / 8) + (16 + n.val % 8)

theorem crc16_flipBit {bs : List Byte} (hlen : bs.length = 6) (n : Fin 48) :
    crc16 (flipBit n bs) = crc16 bs ^^^ crcRounds (roundsBehind n) 1 := by
  have hn : n.val / 8 < bs.length := by omega
  have hbit : crcByte 0 (1#8 <<< (n.val % 8)) = crcRounds (16 + n.val % 8) 1 := crcByte_zero_bit _ (by omega)
  rw [flipBit, List.modify_eq_take_cons_drop hn, crc16_xor_byte, List.getElem_cons_drop, List.take_append_drop, hbit,
    ← crcRounds_add, List.length_drop, hlen, roundsBehind, Nat.add_comm (16 + _), Nat.sub_add_eq, Nat.sub_right_comm]

theorem roundsBehind_lt (n : Fin 48) : 16 ≤ roundsBehind n ∧ roundsBehind n < 64 := by
  unfold roundsBehind
  omega

theorem roundsBehind_injective {i j : Fin 48} (h : roundsBehind i = roundsBehind j) : i = j := by
  unfold roundsBehind at h
  omega

/-- Settles O36: two bits reach the CRC after different numbers of rounds, less than 48 apart, so they do not cancel. -/
theorem twoChangedBitsChangeTheCrc : Obligations.TwoChangedBitsChangeTheCrc := by
  intro bs i j hlen hij flip heq
  have hlen' : (flipBit j bs).length = 6 := (List.length_modify _ _ _).trans hlen
  have hflip : crc16 (flip i (flip j bs)) =
      crc16 bs ^^^ (crcRounds (roundsBehind j) 1 ^^^ crcRounds (roundsBehind i) 1) :=
    calc crc16 (flipBit i (flipBit j bs))
      _ = crc16 (flipBit j bs) ^^^ crcRounds (roundsBehind i) 1 := crc16_flipBit hlen' i
      _ = _ := by rw [crc16_flipBit hlen, BitVec.xor_assoc]
  rw [hflip, xor_left_eq_self_iff] at heq
  have heq : crcRounds (roundsBehind j) 1 = crcRounds (roundsBehind i) 1 := BitVec.xor_eq_zero_iff.mp heq
  have hi := roundsBehind_lt i
  have hj := roundsBehind_lt j
  obtain hlt | hEq | hgt := Nat.lt_trichotomy (roundsBehind i) (roundsBehind j)
  · exact crcRounds_one_injective hlt (by omega) heq.symm
  · exact hij (roundsBehind_injective hEq)
  · exact crcRounds_one_injective hgt (by omega) heq

/-! ### The commands -/

theorem step_crcByte {s : State} {b : Byte} {rest : List Input} (hf : s.fault = .none)
    (hs : s.inputs = presentInstr (.crcByte b) :: rest) :
    step s = .next { s with inputs := rest, crc := crcByte s.crc b } := by
  rw [step_of_decode hs (i := .crcByte b) rfl, exec_crcByte_of_no_fault (s := { s with inputs := rest }) hf]
  rfl

theorem step_crcClr {s : State} {rest : List Input} (hf : s.fault = .none)
    (hs : s.inputs = presentInstr .crcClr :: rest) :
    step s = .next { s with inputs := rest, crc := Config.crcInit } := by
  rw [step_of_decode hs (i := .crcClr) rfl, exec_crcClr_of_no_fault (s := { s with inputs := rest }) hf]
  rfl

theorem runSteps_crcBytes (bs : List Byte) (s : State) (hf : s.fault = .none) :
    runSteps bs.length { s with inputs := bs.map fun b => presentInstr (.crcByte b) } =
      .next { s with inputs := [], crc := bs.foldl crcByte s.crc } := by
  induction bs generalizing s with
  | nil => rfl
  | cons b bs ih =>
    exact (runSteps_succ (step_crcByte
      (s := { s with inputs := (b :: bs).map fun b => presentInstr (.crcByte b) }) hf rfl) bs.length).trans
      (ih { s with crc := crcByte s.crc b } hf)

/-- Settles O32: the fold, and the run of the commands that computes it. -/
theorem crcCommandsComputeCrc16 : Obligations.CrcCommandsComputeCrc16 := by
  refine ⟨crc16_nil, crc16_concat, fun bs s hf => ?commands⟩
  case commands =>
    exact (runSteps_succ (step_crcClr
      (s := { s with inputs := presentInstr .crcClr :: bs.map fun b => presentInstr (.crcByte b) }) hf rfl)
      bs.length).trans (runSteps_crcBytes bs { s with crc := Config.crcInit } hf)

/-! ### Frames -/

theorem decodeResponse_eq_none_iff_crc (F : Frame) : decodeResponse F = none ↔ crcField F ≠ frameCrc F := by
  rw [Ne, ← decodeResponse_ne_none_iff_crc, not_not]

/-- Another CRC over the six bytes, against the same CRC field. -/
theorem decodeResponse_of_changed_crc {F G : Frame} (hF : decodeResponse F ≠ none) (hfield : crcField G = crcField F)
    (hcrc : frameCrc G ≠ frameCrc F) : decodeResponse G = none := by
  rw [decodeResponse_eq_none_iff_crc, hfield, (decodeResponse_ne_none_iff_crc F).mp hF]
  exact hcrc.symm

/-- Another CRC field, against the same CRC over the six bytes. -/
theorem decodeResponse_of_changed_field {F G : Frame} (hF : decodeResponse F ≠ none) (hcrc : frameCrc G = frameCrc F)
    (hfield : crcField G ≠ crcField F) : decodeResponse G = none := by
  rw [decodeResponse_eq_none_iff_crc, hcrc, ← (decodeResponse_ne_none_iff_crc F).mp hF]
  exact hfield

/-- A CRC field determines its two bytes. -/
theorem bytes_of_crcField_eq {F G : Frame} (h : crcField G = crcField F) : G.f6 = F.f6 ∧ G.f7 = F.f7 := by
  obtain ⟨hG6, hG7⟩ := (crcField_eq_iff G _).mp h
  obtain ⟨hF6, hF7⟩ := (crcField_eq_iff F _).mp rfl
  exact ⟨hG6.trans hF6.symm, hG7.trans hF7.symm⟩

/-- Settles O42: a covered byte changes the CRC that is computed, the other two bytes change the one it is compared with. -/
theorem tamperingOneByteIsDetected : Obligations.TamperingOneByteIsDetected := by
  intro F v hF
  obtain ⟨a, b, c, d, e, f, g, h⟩ := F
  have covered (before after : List Byte) (x : Byte) (hv : v ≠ x) := oneChangedByteChangesTheCrc before after v x hv
  refine ⟨fun hv => ?_, fun hv => ?_, fun hv => ?_, fun hv => ?_, fun hv => ?_, fun hv => ?_, fun hv => ?_,
    fun hv => ?_⟩
  · exact decodeResponse_of_changed_crc hF rfl (covered [] [b, c, d, e, f] a hv)
  · exact decodeResponse_of_changed_crc hF rfl (covered [a] [c, d, e, f] b hv)
  · exact decodeResponse_of_changed_crc hF rfl (covered [a, b] [d, e, f] c hv)
  · exact decodeResponse_of_changed_crc hF rfl (covered [a, b, c] [e, f] d hv)
  · exact decodeResponse_of_changed_crc hF rfl (covered [a, b, c, d] [f] e hv)
  · exact decodeResponse_of_changed_crc hF rfl (covered [a, b, c, d, e] [] f hv)
  · exact decodeResponse_of_changed_field hF rfl fun heq => hv (bytes_of_crcField_eq heq).1
  · exact decodeResponse_of_changed_field hF rfl fun heq => hv (bytes_of_crcField_eq heq).2

/-- The bytewise XOR of two frames. -/
def xorFrame (F G : Frame) : Frame :=
  { f0 := F.f0 ^^^ G.f0, f1 := F.f1 ^^^ G.f1, f2 := F.f2 ^^^ G.f2, f3 := F.f3 ^^^ G.f3,
    f4 := F.f4 ^^^ G.f4, f5 := F.f5 ^^^ G.f5, f6 := F.f6 ^^^ G.f6, f7 := F.f7 ^^^ G.f7 }

theorem frameCrc_xorFrame (F G : Frame) : frameCrc (xorFrame F G) = frameCrc F ^^^ frameCrc G :=
  crc16IsLinear (coveredBytes F) (coveredBytes G) rfl

theorem crcField_xorFrame (F G : Frame) : crcField (xorFrame F G) = crcField F ^^^ crcField G :=
  BitVec.xor_append.symm

theorem responseOperand_xorFrame (F G : Frame) :
    responseOperand (xorFrame F G) = responseOperand F ^^^ responseOperand G := by
  have high : (F.f5 ++ F.f4 ++ F.f3) ^^^ (G.f5 ++ G.f4 ++ G.f3) =
      (F.f5 ^^^ G.f5) ++ (F.f4 ^^^ G.f4) ++ (F.f3 ^^^ G.f3) :=
    BitVec.xor_append.trans (congrArg (· ++ (F.f3 ^^^ G.f3)) BitVec.xor_append)
  exact (BitVec.xor_append.trans (congrArg (· ++ (F.f2 ^^^ G.f2)) high)).symm

/-- Settles O37: every field of the XOR is the XOR of the fields. -/
theorem xorOfTwoValidFramesIsValid : Obligations.XorOfTwoValidFramesIsValid := by
  intro F G hF hG H
  have valid : frameCrc (xorFrame F G) = crcField (xorFrame F G) := by
    rw [frameCrc_xorFrame, crcField_xorFrame, hF, hG]
  rw [← responseOperand_xorFrame]
  exact if_pos valid

end Sys2Proof.Machine
end

section
/-! The flags and soundness (10_state.md R29; 95_test_vectors.md part 4). The thirteen words are
implications among the five flags of a cycle, and the place of the cycle where `FAULT` was raised. Every update of the
registers, made where the precondition of its command holds, keeps these and what the buffers hold under their flags. -/

namespace Sys2Proof.Machine

/-! ### The thirteen words -/

/-- The five flags of a cycle, as far as they say something of one another. -/
structure CycleFlags (txv reqPend rxv decv rspv : Bool) : Prop where
  rxv_of_decv : decv = true → rxv = true
  decv_of_rspv : rspv = true → decv = true ∧ reqPend = false
  rxv_has_cycle : rxv = true → reqPend = true ∨ rspv = true
  not_txv_of_reqPend : reqPend = true → txv = false

/-- Where in a cycle the block has stopped, by its fault. -/
def FaultPlace (fault : FaultCode) (xdir : XDir) (txv reqPend rxv decv : Bool) : Prop :=
  match fault with
  | .none => xdir = .write
  | .transportError => (xdir = .write ∧ txv = true) ∨ (xdir = .read ∧ reqPend = true ∧ rxv = false)
  | .checksumMismatch => xdir = .write ∧ reqPend = true ∧ rxv = true ∧ decv = false
  | .unknownOpcode => xdir = .write ∧ reqPend = true ∧ decv = true
  | .ackMismatch => xdir = .write ∧ reqPend = true ∧ decv = true

theorem cycleFlags_iff {v p r d a : Bool} :
    CycleFlags v p r d a ↔
      (d = true → r = true) ∧ (a = true → d = true ∧ p = false) ∧ (r = true → p = true ∨ a = true) ∧
        (p = true → v = false) :=
  ⟨fun ⟨h1, h2, h3, h4⟩ => ⟨h1, h2, h3, h4⟩, fun ⟨h1, h2, h3, h4⟩ => ⟨h1, h2, h3, h4⟩⟩

/-- The thirteen words, for each fault and direction over the 32 values of the flags. -/
theorem mem_reachableStatus_iff (f : FaultCode) (x : XDir) (v p r d a : Bool) :
    faultNumber f ++ xdirBit x ++ flagBit a ++ flagBit d ++ flagBit r ++ flagBit p ++ flagBit v ∈ reachableStatus ↔
      CycleFlags v p r d a ∧ FaultPlace f x v p r d := by
  rw [cycleFlags_iff]
  revert v p r d a
  cases f <;> cases x <;> simp only [FaultPlace, reduceCtorEq, false_and, true_and, or_false, false_or] <;> decide

theorem flagsReachable_iff {s : State} :
    FlagsReachable s ↔
      CycleFlags s.txv s.reqPend s.rxv s.decv s.rspv ∧ FaultPlace s.fault s.xdir s.txv s.reqPend s.rxv s.decv :=
  mem_reachableStatus_iff s.fault s.xdir s.txv s.reqPend s.rxv s.decv s.rspv

theorem xdir_of_faultPlace {f : FaultCode} {x : XDir} {v p r d : Bool} (h : FaultPlace f x v p r d) (hf : f = .none) :
    x = .write := by
  subst hf
  exact h

/-- Settles O22: the implications are those of the thirteen words. -/
theorem reachableFlagsObeyTheImplications : Obligations.ReachableFlagsObeyTheImplications := by
  intro s hs hf
  obtain ⟨hflags, hplace⟩ := flagsReachable_iff.mp hs
  exact ⟨hflags.rxv_of_decv, hflags.decv_of_rspv, hflags.not_txv_of_reqPend, xdir_of_faultPlace hplace hf⟩

/-! ### What reset leaves -/

/-- Without flags there is nothing a sound state has to hold. -/
theorem sound_of_no_flags {s : State} (hs : FlagsReachable s) (hv : s.txv = false) (hp : s.reqPend = false)
    (hd : s.decv = false) (ha : s.rspv = false) : Sound s where
  flags := hs
  held h := by simp [hv, hp] at h
  sent h := by simp [hp] at h
  decoded h := by simp [hd] at h
  valid h := by simp [ha] at h

/-- Settles O17: reset writes these values. -/
theorem resetStateHasTheStatedValues : Obligations.ResetStateHasTheStatedValues :=
  ⟨rfl, rfl, rfl, rfl, rfl, rfl, rfl, rfl, rfl, rfl⟩

theorem zero_mem_reachableStatus : 0x000 ∈ reachableStatus := by
  decide

/-- Settles O21: all flags are 0. -/
theorem resetFlagsAreReachable : Obligations.ResetFlagsAreReachable :=
  zero_mem_reachableStatus

/-- Whatever is presented after reset and whatever the transport is. -/
theorem sound_reset_with (ins : List Input) (l : Transport) : Sound { State.reset with inputs := ins, link := l } :=
  sound_of_no_flags (s := { State.reset with inputs := ins, link := l }) resetFlagsAreReachable rfl rfl rfl rfl

/-- Settles O24: every clause but that on the flags asks for a flag that is 0. -/
theorem resetStateIsSound : Obligations.ResetStateIsSound :=
  sound_reset_with State.reset.inputs State.reset.link

theorem sound_resetBlock (s : State) : Sound (resetBlock s) :=
  sound_of_no_flags (by rw [FlagsReachable, statusWord_resetBlock]; exact zero_mem_reachableStatus) rfl rfl rfl rfl

/-! ### A property that every update keeps -/

/-- A property of states that every update of the registers keeps, where the precondition of its command holds. Which update
a command makes is the transport's answer, or the response's. -/
structure KeptByUpdates (P : State → Prop) : Prop where
  crc : ∀ {s} c, P s → P { s with crc := c }
  deliverFrame : ∀ {s} F, P s → P { s with link := deliverFrame F s.link }
  latchRequest : ∀ {s} op opd, P s → preEncReq s = true → P (latchRequest op opd s)
  markSent : ∀ {s}, P s → preTxSend s = true → nextWriteAnswer s.link = .ok → P (markSent s)
  failWrite : ∀ {s}, P s → preTxSend s = true → P (failWrite s)
  storeResponse : ∀ {s} F, P s → preRxLoad s = true → P (storeResponse F s)
  failRead : ∀ {s}, P s → preRxLoad s = true → P (failRead s)
  checkResponse : ∀ {s}, P s → preDecRsp s = true → P (checkResponse s)
  validateResponse : ∀ {s}, P s → preValRsp s = true → P (validateResponse s)

theorem thenUnlessFault_keeps {P : State → Prop} {o : Out} {k : State → Out}
    (ho : ∀ u, o = .next u → P u) (hk : ∀ u, P u → ∀ t, k u = .next t → P t) :
    ∀ t, thenUnlessFault o k = .next t → P t := by
  intro t h
  obtain ⟨u, hu, ⟨-, rfl⟩ | ⟨-, hkt⟩⟩ := (thenUnlessFault_eq_next o k t).mp h
  · exact ho t hu
  · exact hk u (ho u hu) t hkt

/-- All a request frame row can do (log entry 8): what `ENC.REQ` does, under its precondition. -/
theorem buildRequestFrame_eq_next {op : Byte} {opd : Operand} {crc : Crc} {s t : State}
    (h : buildRequestFrame op opd crc s = .next t) : preEncReq s = true ∧ t = latchRequest op opd s := by
  unfold buildRequestFrame at h
  split at h
  case isTrue =>
    obtain ⟨hpre, ⟨⟩⟩ := (guarded_eq_next _ _ t).mp h
    exact ⟨hpre, rfl⟩
  case isFalse => cases h

section
variable {P : State → Prop} (hP : KeptByUpdates P)
include hP

theorem KeptByUpdates.of_encReq {s t : State} {op : Byte} {opd : Operand} (hs : P s)
    (he : execEncReq op opd s = .next t) : P t := by
  obtain ⟨hpre, ⟨⟩⟩ := (guarded_eq_next _ _ t).mp he
  exact hP.latchRequest op opd hs hpre

theorem KeptByUpdates.of_txSend {s t : State} (hs : P s) (he : execTxSend s = .next t) : P t := by
  obtain ⟨hpre, hsend⟩ := (guarded_eq_next _ _ t).mp he
  obtain ⟨hok, rfl⟩ | ⟨-, rfl⟩ | ⟨-, -, rfl⟩ := (sendRequest_eq_next s t).mp hsend
  · exact hP.markSent hs hpre hok
  · exact hP.failWrite hs hpre
  · exact hP.failWrite hs hpre

theorem KeptByUpdates.of_rxLoad {s t : State} (hs : P s) (he : execRxLoad s = .next t) : P t := by
  obtain ⟨hpre, hload⟩ := (guarded_eq_next _ _ t).mp he
  obtain ⟨F, -, rfl⟩ | ⟨-, rfl⟩ | ⟨-, -, rfl⟩ := (loadResponse_eq_next s t).mp hload
  · exact hP.storeResponse F hs hpre
  · exact hP.failRead hs hpre
  · exact hP.failRead hs hpre

theorem KeptByUpdates.of_decRsp {s t : State} (hs : P s) (he : execDecRsp s = .next t) : P t := by
  obtain ⟨hpre, ⟨⟩⟩ := (guarded_eq_next _ _ t).mp he
  exact hP.checkResponse hs hpre

theorem KeptByUpdates.of_valRsp {s t : State} (hs : P s) (he : execValRsp s = .next t) : P t := by
  obtain ⟨hpre, ⟨⟩⟩ := (guarded_eq_next _ _ t).mp he
  exact hP.validateResponse hs hpre

/-- `SUBMIT`, line by line. -/
theorem KeptByUpdates.of_submit {s t : State} {op : Byte} {opd : Operand} (hs : P s)
    (he : execSubmit op opd s = .next t) : P t := by
  obtain ⟨-, hseq⟩ := (guarded_eq_next _ _ t).mp he
  have encoded := fun u => hP.of_encReq (t := u) (op := op) (opd := opd) hs
  have sent := thenUnlessFault_keeps encoded fun _ hu _ => hP.of_txSend hu
  have loaded := thenUnlessFault_keeps sent fun _ hu _ => hP.of_rxLoad hu
  have decoded := thenUnlessFault_keeps loaded fun _ hu _ => hP.of_decRsp hu
  exact thenUnlessFault_keeps decoded (fun _ hu _ => hP.of_valRsp hu) t hseq

theorem KeptByUpdates.of_buildRequestFrame {s t : State} {op : Byte} {opd : Operand} {crc : Crc} (hs : P s)
    (he : buildRequestFrame op opd crc s = .next t) : P t := by
  obtain ⟨hpre, rfl⟩ := buildRequestFrame_eq_next he
  exact hP.latchRequest op opd hs hpre

theorem KeptByUpdates.of_exec {i : Instr} {s t : State} (hs : P s) (he : exec i s = .next t) : P t := by
  cases i with
  | nop =>
    cases he
    exact hs
  | crcClr | crcByte =>
    obtain ⟨-, ⟨⟩⟩ := (guarded_eq_next _ _ t).mp he
    exact hP.crc _ hs
  | encReq => exact hP.of_encReq hs he
  | txSend => exact hP.of_txSend hs he
  | rxLoad => exact hP.of_rxLoad hs he
  | decRsp => exact hP.of_decRsp hs he
  | valRsp => exact hP.of_valRsp hs he
  | submit => exact hP.of_submit hs he
  | req | reqHeartbeat | reqTecTemperature => exact hP.of_buildRequestFrame hs he
  | rsp | rspHeartbeat | rspTecTemperature =>
    cases he
    exact hP.deliverFrame _ hs

end

/-! ### Soundness -/

theorem sound_latchRequest {s : State} (hs : Sound s) (hpre : preEncReq s = true) (op : Byte) (opd : Operand) :
    Sound (latchRequest op opd s) := by
  obtain ⟨hf, hp⟩ := preEncReq_eq_true.mp hpre
  obtain ⟨hflags, hplace⟩ := flagsReachable_iff.mp hs.flags
  have not_pending : ¬ (latchRequest op opd s).reqPend = true := by simp [hp]
  refine ⟨flagsReachable_iff.mpr ⟨⟨hflags.rxv_of_decv, hflags.decv_of_rspv, hflags.rxv_has_cycle,
    fun h => absurd h not_pending⟩, ?_⟩, fun _ => ?_, fun h => absurd h not_pending, hs.decoded, hs.valid⟩
  · simpa [hf, FaultPlace] using hplace
  · simp

theorem sound_markSent {s : State} (hs : Sound s) (hpre : preTxSend s = true) (hok : nextWriteAnswer s.link = .ok) :
    Sound (markSent s) := by
  obtain ⟨hf, hv, hp⟩ := preTxSend_eq_true.mp hpre
  obtain ⟨hflags, hplace⟩ := flagsReachable_iff.mp hs.flags
  have flags : CycleFlags false true false false false := cycleFlags_iff.mpr (by decide)
  refine ⟨flagsReachable_iff.mpr ⟨flags, ?_⟩, fun _ => hs.held (.inl hv), fun _ => ?_, ?_, ?_⟩
  · simpa [hf, FaultPlace] using hplace
  · rw [markSent_link, afterWrite_of_ok hok]
    exact List.suffix_append _ _
  · simp
  · simp

theorem sound_failWrite {s : State} (hs : Sound s) (hpre : preTxSend s = true) : Sound (failWrite s) := by
  obtain ⟨-, hv, hp⟩ := preTxSend_eq_true.mp hpre
  obtain ⟨hflags, -⟩ := flagsReachable_iff.mp hs.flags
  refine ⟨flagsReachable_iff.mpr ⟨hflags, .inl ⟨rfl, hv⟩⟩, hs.held, fun h => ?_, hs.decoded, hs.valid⟩
  exact absurd h (by simp [hp])

theorem sound_storeResponse {s : State} (hs : Sound s) (hpre : preRxLoad s = true) (F : Frame) :
    Sound (storeResponse F s) := by
  obtain ⟨hf, hp, hr⟩ := preRxLoad_eq_true.mp hpre
  obtain ⟨hflags, hplace⟩ := flagsReachable_iff.mp hs.flags
  have hd : s.decv = false := Bool.eq_false_iff.mpr fun hd => by simp [hflags.rxv_of_decv hd] at hr
  refine ⟨flagsReachable_iff.mpr ⟨⟨?_, hflags.decv_of_rspv, ?_, hflags.not_txv_of_reqPend⟩, ?_⟩, hs.held, hs.sent, ?_,
    hs.valid⟩
  · simp
  · simp [hp]
  · simpa [hf, FaultPlace] using hplace
  · simp [ResponseDecoded, hd]

theorem sound_failRead {s : State} (hs : Sound s) (hpre : preRxLoad s = true) : Sound (failRead s) := by
  obtain ⟨hf, hp, hr⟩ := preRxLoad_eq_true.mp hpre
  obtain ⟨hflags, hplace⟩ := flagsReachable_iff.mp hs.flags
  refine ⟨flagsReachable_iff.mpr ⟨hflags, .inr ⟨rfl, hp, hr⟩⟩, hs.held, hs.sent, fun hd => ?_, hs.valid⟩
  exact absurd (hflags.rxv_of_decv hd) (by simp [hr])

/-- A response that is decoded already stays so; another one is of a request outstanding, so `RSPV = 0`. -/
theorem sound_checkResponse {s : State} (hs : Sound s) (hpre : preDecRsp s = true) : Sound (checkResponse s) := by
  obtain ⟨hf, hr⟩ := preDecRsp_eq_true.mp hpre
  obtain ⟨hflags, hplace⟩ := flagsReachable_iff.mp hs.flags
  obtain ⟨hcrc, hc⟩ | ⟨hne, hc⟩ := checkResponse_cases s <;> rw [hc]
  · refine ⟨flagsReachable_iff.mpr ⟨⟨fun _ => hr, fun ha => ⟨rfl, (hflags.decv_of_rspv ha).2⟩, hflags.rxv_has_cycle,
      hflags.not_txv_of_reqPend⟩, ?_⟩, hs.held, hs.sent, fun _ => ⟨rfl, rfl, rfl, hcrc⟩, fun ha => ?_⟩
    · simpa [hf, FaultPlace] using hplace
    · obtain ⟨hop, -⟩ := hs.decoded (hflags.decv_of_rspv ha).1
      obtain ⟨hreg, hack⟩ := hs.valid ha
      exact ⟨hreg, hop.symm.trans hack⟩
  · have hd : s.decv = false := Bool.eq_false_iff.mpr fun hd => hne (hs.decoded hd).2.2.2
    have ha : s.rspv = false := Bool.eq_false_iff.mpr fun ha => by simp [(hflags.decv_of_rspv ha).1] at hd
    have hp : s.reqPend = true := by simpa [ha] using hflags.rxv_has_cycle hr
    refine ⟨flagsReachable_iff.mpr ⟨hflags, xdir_of_faultPlace hplace hf, hp, hr, hd⟩, hs.held, hs.sent, fun h => ?_,
      fun h => ?_⟩
    · exact absurd h (by simp [hd])
    · exact absurd h (by simp [ha])

theorem sound_validateResponse {s : State} (hs : Sound s) (hpre : preValRsp s = true) : Sound (validateResponse s) := by
  obtain ⟨hf, hd, hp⟩ := preValRsp_eq_true.mp hpre
  obtain ⟨hflags, hplace⟩ := flagsReachable_iff.mp hs.flags
  have hx : s.xdir = .write := xdir_of_faultPlace hplace hf
  have ha : s.rspv = false := Bool.eq_false_iff.mpr fun ha => by simp [(hflags.decv_of_rspv ha).2] at hp
  obtain ⟨-, hv⟩ | ⟨-, -, -, hv⟩ | ⟨-, hreg, heq, hv⟩ := validateResponse_cases s <;> rw [hv]
  · exact ⟨flagsReachable_iff.mpr ⟨hflags, hx, hp, hd⟩, hs.held, hs.sent, hs.decoded, fun h => absurd h (by simp [ha])⟩
  · exact ⟨flagsReachable_iff.mpr ⟨hflags, hx, hp, hd⟩, hs.held, hs.sent, hs.decoded, fun h => absurd h (by simp [ha])⟩
  · refine ⟨flagsReachable_iff.mpr ⟨⟨hflags.rxv_of_decv, fun _ => ⟨hd, rfl⟩, fun _ => .inr rfl, fun h => ?_⟩, ?_⟩,
      fun _ => hs.held (.inr hp), fun h => ?_, hs.decoded, fun _ => ⟨hreg, ?_⟩⟩
    · cases h
    · simpa [hf, FaultPlace] using hx
    · cases h
    · exact (BitVec.sub_add_cancel _ _).symm

theorem sound_keptByUpdates : KeptByUpdates Sound where
  crc _ hs := ⟨hs.flags, hs.held, hs.sent, hs.decoded, hs.valid⟩
  deliverFrame _ hs := ⟨hs.flags, hs.held, hs.sent, hs.decoded, hs.valid⟩
  latchRequest op opd hs hpre := sound_latchRequest hs hpre op opd
  markSent hs hpre hok := sound_markSent hs hpre hok
  failWrite hs hpre := sound_failWrite hs hpre
  storeResponse F hs hpre := sound_storeResponse hs hpre F
  failRead hs hpre := sound_failRead hs hpre
  checkResponse hs hpre := sound_checkResponse hs hpre
  validateResponse hs hpre := sound_validateResponse hs hpre

/-- What is presented next plays no part in soundness. -/
theorem sound_with_inputs {s : State} (hs : Sound s) (ins : List Input) : Sound { s with inputs := ins } :=
  ⟨hs.flags, hs.held, hs.sent, hs.decoded, hs.valid⟩

/-- Settles O23: a step waits, resets the block, or runs an instruction, whose updates keep soundness. -/
theorem everyStepKeepsSoundness : Obligations.EveryStepKeepsSoundness := by
  intro s t hs hst
  obtain ⟨-, rfl⟩ | ⟨rest, -, rfl⟩ | ⟨p, rest, i, -, -, he⟩ := (step_eq_next s t).mp hst
  · exact hs
  · exact sound_resetBlock _
  · obtain he | ⟨dir, l, _, -, -, rfl⟩ := (abandonIfReset_eq_next _ _ t).mp he
    · exact sound_keptByUpdates.of_exec (sound_with_inputs hs rest) he
    · exact sound_resetBlock _

/-- A property that every step keeps holds after every run. -/
theorem runSteps_keeps {P : State → Prop} (hP : ∀ s t, P s → step s = .next t → P t) (n : Nat) {s t : State} (hs : P s)
    (h : runSteps n s = .next t) : P t := by
  induction n generalizing s with
  | zero =>
    cases h
    exact hs
  | succ n ih =>
    cases hst : step s with
    | next u => exact ih (hP s u hs hst) ((runSteps_succ hst n).symm.trans h)
    | fault f => simp [runSteps, hst] at h
    | refused r => simp [runSteps, hst] at h

/-- Settles O20: the state after reset is sound, and so is every state a run from it reaches. -/
theorem everyRunFromResetHasReachableFlags : Obligations.EveryRunFromResetHasReachableFlags :=
  fun ins l n _ h => (runSteps_keeps everyStepKeepsSoundness n (sound_reset_with ins l) h).flags

end Sys2Proof.Machine
end

section
/-! DEC's commands, `RX.LOAD` and `DEC.RSP` (42_frame_decode.md R141, R144), and transfers that the transport does not
answer (20_memory.md R67). -/

namespace Sys2Proof.Machine

/-! ### An exact read, by the transport's answer -/

theorem afterRead_of_answer {t : Transport} {a : ReadAnswer} (h : nextReadAnswer t = a) :
    afterRead t = { t with readScript := t.readScript.tail, answers := t.answers ++ [.read a] } := by
  rw [afterRead, h]

theorem loadResponse_of_ok {s : State} {F : Frame} (h : nextReadAnswer s.link = .ok F) :
    loadResponse s = .next (storeResponse F s) :=
  (loadResponse_eq_next s _).mpr (.inl ⟨F, h, rfl⟩)

theorem loadResponse_of_fail {s : State} {k : Fin 8} (h : nextReadAnswer s.link = .fail k) :
    loadResponse s = .next (failRead s) :=
  (loadResponse_eq_next s _).mpr (.inr (.inl ⟨⟨k, h⟩, rfl⟩))

theorem timesOut_eq_true {s : State} :
    timesOut s = true ↔ Config.xportTimeout = true ∧ s.inputs.head? ≠ some .rst := by
  simp [timesOut]

theorem loadResponse_of_silent {s : State} {k : Fin 8} (h : nextReadAnswer s.link = .silent k) :
    loadResponse s =
      if Config.xportTimeout = true ∧ s.inputs.head? ≠ some .rst then .next (failRead s)
      else .fault (.transportBlocked .read (afterRead s.link)) := by
  simp only [loadResponse, h, timesOut_eq_true]

theorem sendRequest_of_silent {s : State} {k : Fin 9} (h : nextWriteAnswer s.link = .silent k) :
    sendRequest s =
      if Config.xportTimeout = true ∧ s.inputs.head? ≠ some .rst then .next (failWrite s)
      else .fault (.transportBlocked .write (afterWrite s.link (frameBytes s.txf))) := by
  simp only [sendRequest, h, timesOut_eq_true]

/-! ### The commands -/

theorem preRxLoad_eq_false {s : State} :
    preRxLoad s = false ↔ s.fault ≠ .none ∨ s.reqPend = false ∨ s.rxv = true := by
  simp [preRxLoad, isHalted, imp_iff_not_or, or_assoc]

theorem preDecRsp_eq_false {s : State} : preDecRsp s = false ↔ s.fault ≠ .none ∨ s.rxv = false := by
  simp [preDecRsp, isHalted, imp_iff_not_or]

theorem exec_rxLoad_of_met {s : State} (h : preRxLoad s = true) : exec .rxLoad s = loadResponse s :=
  guarded_of_met h _

theorem exec_decRsp_of_met {s : State} (h : preDecRsp s = true) : exec .decRsp s = .next (checkResponse s) :=
  guarded_of_met h _

theorem checkResponse_of_match {s : State} (h : frameCrc s.rxf = crcField s.rxf) :
    checkResponse s = markDecoded (latchResponse s) :=
  if_neg (not_not_intro h)

theorem checkResponse_of_mismatch {s : State} (h : frameCrc s.rxf ≠ crcField s.rxf) :
    checkResponse s = raiseFault .checksumMismatch (latchResponse s) :=
  if_pos h

/-- Settles O6: past the precondition, the transport's answer decides. -/
theorem rxLoadReadsEightBytes : Obligations.RxLoadReadsEightBytes := by
  refine ⟨fun _ _ _ => rfl, fun _ h => guarded_of_unmet (preRxLoad_eq_false.mpr h) _, ?ok, ?fail, ?silent⟩
  case ok =>
    intro s F hf hp hr ha
    calc exec .rxLoad s
      _ = loadResponse s := exec_rxLoad_of_met (preRxLoad_eq_true.mpr ⟨hf, hp, hr⟩)
      _ = .next (storeResponse F s) := loadResponse_of_ok ha
      _ = _ := by rw [storeResponse, afterRead_of_answer ha]
  case fail =>
    intro s k hf hp hr ha
    refine ⟨Config.noRxf s.draws, s.draws + 1, ?_⟩
    calc exec .rxLoad s
      _ = loadResponse s := exec_rxLoad_of_met (preRxLoad_eq_true.mpr ⟨hf, hp, hr⟩)
      _ = .next (failRead s) := loadResponse_of_fail ha
      _ = _ := by rw [failRead, afterRead_of_answer ha, raiseFault]
  case silent =>
    intro s k hf hp hr ha used
    refine ⟨Config.noRxf s.draws, s.draws + 1, ?_⟩
    have hused : afterRead s.link = used := afterRead_of_answer ha
    calc exec .rxLoad s
      _ = loadResponse s := exec_rxLoad_of_met (preRxLoad_eq_true.mpr ⟨hf, hp, hr⟩)
      _ = _ := loadResponse_of_silent ha
      _ = _ := by rw [failRead, hused, raiseFault]

/-- Settles O18: a wait that the timeout ends is a failure, any other one the named stop. -/
theorem unansweredTransferFaultsOrBlocks : Obligations.UnansweredTransferFaultsOrBlocks := by
  refine ⟨?write, ?read⟩
  case write =>
    intro s k hf hv hp ha
    exact (exec_txSend_of_met (preTxSend_eq_true.mpr ⟨hf, hv, hp⟩)).trans (sendRequest_of_silent ha)
  case read =>
    intro s k hf hp hr ha
    exact ⟨Config.noRxf s.draws, s.draws + 1,
      (exec_rxLoad_of_met (preRxLoad_eq_true.mpr ⟨hf, hp, hr⟩)).trans (loadResponse_of_silent ha)⟩

/-- Settles O7: the same registers are written at both ends of the comparison. -/
theorem decRspDecodesTheFrame : Obligations.DecRspDecodesTheFrame := by
  refine ⟨fun _ _ _ => rfl, fun _ h => guarded_of_unmet (preDecRsp_eq_false.mpr h) _, ?agree, ?mismatch⟩
  case agree =>
    intro s hf hr hcrc
    exact (exec_decRsp_of_met (preDecRsp_eq_true.mpr ⟨hf, hr⟩)).trans
      (congrArg Host.Outcome.next (checkResponse_of_match hcrc))
  case mismatch =>
    intro s hf hr hcrc
    exact (exec_decRsp_of_met (preDecRsp_eq_true.mpr ⟨hf, hr⟩)).trans
      (congrArg Host.Outcome.next (checkResponse_of_mismatch hcrc))

/-- Settles O55: decoding reads `RXF` only, which it does not write. -/
theorem repeatedDecodingChangesNothing : Obligations.RepeatedDecodingChangesNothing := by
  intro s t he hf
  obtain ⟨hpre, ⟨⟩⟩ := (guarded_eq_next _ _ t).mp he
  obtain ⟨-, hr⟩ := preDecRsp_eq_true.mp hpre
  obtain ⟨hcrc, hc⟩ | ⟨-, hc⟩ := checkResponse_cases s <;> rw [hc] at hf ⊢
  · exact (exec_decRsp_of_met (preDecRsp_eq_true.mpr ⟨hf, hr⟩)).trans
      (congrArg Host.Outcome.next (checkResponse_of_match (s := markDecoded (latchResponse s)) hcrc))
  · cases hf

end Sys2Proof.Machine
end

section
/-! `SUBMIT` (43_validate_and_cycle.md R155 to R157): one cycle by the place where it ended, and what follows of the whole
command from that. -/

namespace Sys2Proof.Machine

/-! ### Lines that go on to the next -/

theorem exec_txSend_of_ok {s : State} (h : preTxSend s = true) (hw : nextWriteAnswer s.link = .ok) :
    exec .txSend s = .next (markSent s) :=
  (exec_txSend_of_met h).trans (sendRequest_of_ok hw)

theorem exec_rxLoad_of_ok {s : State} {F : Frame} (h : preRxLoad s = true) (hr : nextReadAnswer s.link = .ok F) :
    exec .rxLoad s = .next (storeResponse F s) :=
  (exec_rxLoad_of_met h).trans (loadResponse_of_ok hr)

theorem exec_decRsp_of_match {s : State} (h : preDecRsp s = true) (hcrc : frameCrc s.rxf = crcField s.rxf) :
    exec .decRsp s = .next (markDecoded (latchResponse s)) :=
  (exec_decRsp_of_met h).trans (congrArg Host.Outcome.next (checkResponse_of_match hcrc))

/-! ### The states a cycle goes through -/

/-- After a write that is taken. -/
def cycleSent (op : Byte) (opd : Operand) (s : State) : State :=
  markSent (latchRequest op opd s)

/-- After a read that returns `F`. -/
def cycleLoaded (op : Byte) (opd : Operand) (F : Frame) (s : State) : State :=
  storeResponse F (cycleSent op opd s)

/-- After the response registers are written. -/
def cycleLatched (op : Byte) (opd : Operand) (F : Frame) (s : State) : State :=
  latchResponse (cycleLoaded op opd F s)

theorem cycleSent_link {s : State} (hw : nextWriteAnswer s.link = .ok) (op : Byte) (opd : Operand) :
    (cycleSent op opd s).link =
      { s.link with
        txs := s.link.txs ++ frameBytes (encodeRequest op opd), writeScript := s.link.writeScript.tail,
        answers := s.link.answers ++ [.write .ok] } :=
  afterWrite_of_ok hw (encodeRequest op opd)

/-! ### The cycle, line by line -/

section
variable {op : Byte} {opd : Operand} {s : State} (hf : s.fault = .none) (hp : s.reqPend = false)
include hf hp

theorem exec_submit_of_write_ok (hw : nextWriteAnswer s.link = .ok) :
    exec (.submit op opd) s =
      thenUnlessFault (thenUnlessFault (loadResponse (cycleSent op opd s)) execDecRsp) execValRsp := by
  have encoded : execEncReq op opd s = .next (latchRequest op opd s) :=
    exec_encReq_of_met (preEncReq_eq_true.mpr ⟨hf, hp⟩) op opd
  have sent : execTxSend (latchRequest op opd s) = .next (cycleSent op opd s) :=
    exec_txSend_of_ok (s := latchRequest op opd s) (preTxSend_eq_true.mpr ⟨hf, rfl, hp⟩) hw
  have loading : execRxLoad (cycleSent op opd s) = loadResponse (cycleSent op opd s) :=
    exec_rxLoad_of_met (preRxLoad_eq_true.mpr ⟨hf, rfl, rfl⟩)
  refine (guarded_of_met (preSubmit_eq_true.mpr ⟨hf, hp⟩) _).trans ?_
  rw [encoded, thenUnlessFault_next (s := latchRequest op opd s) hf, sent,
    thenUnlessFault_next (s := cycleSent op opd s) hf, loading]

/-- A `SUBMIT` whose read returns no frame ends as its `RX.LOAD` does. -/
theorem exec_submit_of_read_not_ok (hw : nextWriteAnswer s.link = .ok)
    (hr : ∀ F, nextReadAnswer (cycleSent op opd s).link ≠ .ok F) :
    exec (.submit op opd) s = loadResponse (cycleSent op opd s) := by
  have faulting : ∀ u, loadResponse (cycleSent op opd s) = .next u → u.fault ≠ .none := by
    intro u hu
    obtain ⟨F, hF, -⟩ | ⟨-, rfl⟩ | ⟨-, -, rfl⟩ := (loadResponse_eq_next _ u).mp hu
    · exact absurd hF (hr F)
    · simp
    · simp
  rw [exec_submit_of_write_ok hf hp hw, thenUnlessFault_of_faulting faulting, thenUnlessFault_of_faulting faulting]

theorem exec_submit_of_read_ok {F : Frame} (hw : nextWriteAnswer s.link = .ok)
    (hr : nextReadAnswer (cycleSent op opd s).link = .ok F) :
    exec (.submit op opd) s = thenUnlessFault (.next (checkResponse (cycleLoaded op opd F s))) execValRsp := by
  have decoding : execDecRsp (cycleLoaded op opd F s) = .next (checkResponse (cycleLoaded op opd F s)) :=
    exec_decRsp_of_met (preDecRsp_eq_true.mpr ⟨hf, rfl⟩)
  rw [exec_submit_of_write_ok hf hp hw, loadResponse_of_ok hr]
  exact congrArg (thenUnlessFault · execValRsp)
    ((thenUnlessFault_next (s := cycleLoaded op opd F s) hf execDecRsp).trans decoding)

theorem exec_submit_of_mismatch {F : Frame} (hw : nextWriteAnswer s.link = .ok)
    (hr : nextReadAnswer (cycleSent op opd s).link = .ok F) (hcrc : frameCrc F ≠ crcField F) :
    exec (.submit op opd) s = .next (raiseFault .checksumMismatch (cycleLatched op opd F s)) := by
  rw [exec_submit_of_read_ok hf hp hw hr, checkResponse_of_mismatch (s := cycleLoaded op opd F s) hcrc]
  exact thenUnlessFault_halted (by simp) _

theorem exec_submit_of_match {F : Frame} (hw : nextWriteAnswer s.link = .ok)
    (hr : nextReadAnswer (cycleSent op opd s).link = .ok F) (hcrc : frameCrc F = crcField F) :
    exec (.submit op opd) s = .next (validateResponse (markDecoded (cycleLatched op opd F s))) := by
  rw [exec_submit_of_read_ok hf hp hw hr, checkResponse_of_match (s := cycleLoaded op opd F s) hcrc]
  exact (thenUnlessFault_next (s := markDecoded (cycleLatched op opd F s)) hf execValRsp).trans
    (exec_valRsp_of_met (preValRsp_eq_true.mpr ⟨hf, rfl, rfl⟩))

/-- All a `SUBMIT` can do past its precondition, by the transport's answers and the response's CRC. -/
theorem exec_submit_cases (op : Byte) (opd : Operand) :
    (nextWriteAnswer s.link ≠ .ok ∧ exec (.submit op opd) s = sendRequest (latchRequest op opd s)) ∨
      (nextWriteAnswer s.link = .ok ∧ (∀ F, nextReadAnswer (cycleSent op opd s).link ≠ .ok F) ∧
        exec (.submit op opd) s = loadResponse (cycleSent op opd s)) ∨
      ∃ F, nextWriteAnswer s.link = .ok ∧ nextReadAnswer (cycleSent op opd s).link = .ok F ∧
        ((frameCrc F ≠ crcField F ∧
            exec (.submit op opd) s = .next (raiseFault .checksumMismatch (cycleLatched op opd F s))) ∨
          (frameCrc F = crcField F ∧
            exec (.submit op opd) s = .next (validateResponse (markDecoded (cycleLatched op opd F s))))) := by
  by_cases hw : nextWriteAnswer s.link = .ok
  · by_cases hr : ∃ F, nextReadAnswer (cycleSent op opd s).link = .ok F
    · obtain ⟨F, hr⟩ := hr
      by_cases hcrc : frameCrc F = crcField F
      · exact .inr (.inr ⟨F, hw, hr, .inr ⟨hcrc, exec_submit_of_match hf hp hw hr hcrc⟩⟩)
      · exact .inr (.inr ⟨F, hw, hr, .inl ⟨hcrc, exec_submit_of_mismatch hf hp hw hr hcrc⟩⟩)
    · exact .inr (.inl ⟨hw, not_exists.mp hr, exec_submit_of_read_not_ok hf hp hw (not_exists.mp hr)⟩)
  · exact .inl ⟨hw, exec_submit_of_not_ok hf hp hw⟩

end

/-! ### A completed cycle -/

/-- The response byte of a registered opcode is not below the offset. -/
theorem not_lt_ackOffset_of_registered {op : Byte} (h : registered op = true) :
    ¬ op + Config.ackOffset < Config.ackOffset := by
  have hle : op.toNat ≤ 36 := registryHolds_le _ _ h
  rw [lt_ackOffset_iff, BitVec.toNat_add, show Config.ackOffset.toNat = 127 from rfl]
  omega

theorem validateResponse_of_acknowledged {s : State} (hreg : registered s.reqOp = true)
    (hop : s.rspOp = s.reqOp + Config.ackOffset) :
    validateResponse s = acceptResponse { s with ackOp := s.reqOp } := by
  have hack : s.rspOp - Config.ackOffset = s.reqOp := by rw [hop, BitVec.add_sub_cancel]
  have hlt : ¬ s.rspOp < Config.ackOffset := hop ▸ not_lt_ackOffset_of_registered hreg
  rw [validateResponse_of_known hlt (hack ▸ hreg), if_neg (not_not_intro hack), latchAck, hack]

/-- Settles O9: the cycle whose every line goes on to the next. -/
theorem submitCompletesTheCycle : Obligations.SubmitCompletesTheCycle := by
  refine ⟨fun _ _ _ => rfl, fun op opd s h => guarded_of_unmet (preEncReq_eq_false.mpr h) _, ?completed⟩
  case completed =>
    intro op opd s F hf hp hw hr hcrc hreg hop
    have hread : nextReadAnswer (cycleSent op opd s).link = .ok F := hr
    have hlink : (cycleLoaded op opd F s).link =
        { s.link with
          txs := s.link.txs ++ frameBytes (encodeRequest op opd),
          writeScript := s.link.writeScript.tail, readScript := s.link.readScript.tail,
          answers := s.link.answers ++ [.write .ok, .read (.ok F)] } := by
      rw [cycleLoaded, storeResponse_link, afterRead_of_answer hread, cycleSent_link hw, List.append_assoc]
      rfl
    calc exec (.submit op opd) s
      _ = .next (validateResponse (markDecoded (cycleLatched op opd F s))) := exec_submit_of_match hf hp hw hread hcrc
      _ = .next (acceptResponse { markDecoded (cycleLatched op opd F s) with ackOp := op }) :=
        congrArg Host.Outcome.next
          (validateResponse_of_acknowledged (s := markDecoded (cycleLatched op opd F s)) hreg hop)
      _ = .next { s with
            crc := frameCrc F, txf := encodeRequest op opd, txv := false, reqOp := op, reqPend := false,
            rxf := F, rxv := true, rspOp := F.f1, rspOpd := responseOperand F, rspCrc := crcField F,
            decv := true, ackOp := op, rspv := true, link := (cycleLoaded op opd F s).link } := rfl
      _ = _ := by rw [hlink, hcrc]

/-! ### The end of any cycle -/

theorem preSubmit_of_next {op : Byte} {opd : Operand} {s t : State} (h : exec (.submit op opd) s = .next t) :
    s.fault = .none ∧ s.reqPend = false := by
  obtain ⟨hpre, -⟩ := (guarded_eq_next _ _ t).mp h
  exact preSubmit_eq_true.mp hpre

theorem bytesSent_le (a : WriteAnswer) : bytesSent a ≤ 8 := by
  cases a with
  | ok => exact le_refl 8
  | fail k | silent k => exact Nat.le_of_lt_succ k.isLt

theorem loadResponse_of_not_ok {s t : State} (hr : ∀ F, nextReadAnswer s.link ≠ .ok F) (h : loadResponse s = .next t) :
    t = failRead s := by
  obtain ⟨F, hF, -⟩ | ⟨-, ht⟩ | ⟨-, -, ht⟩ := (loadResponse_eq_next s t).mp h
  · exact absurd hF (hr F)
  · exact ht
  · exact ht

/-- Settles O10, place by place. -/
theorem submitEndStates : Obligations.SubmitEndStates := by
  intro op opd s t he
  obtain ⟨hf, hp⟩ := preSubmit_of_next he
  have hcrc : crcField (encodeRequest op opd) = requestCrc op opd := crcField_encodeRequest op opd
  obtain ⟨hw, hx⟩ | ⟨hw, hr, hx⟩ | ⟨F, hw, hr, hend⟩ := exec_submit_cases hf hp op opd
  · obtain rfl := sendRequest_of_not_ok (s := latchRequest op opd s) hw (hx.symm.trans he)
    exact ⟨rfl, rfl, .inl ⟨rfl, rfl, rfl, hp, rfl, rfl, rfl, hcrc, rfl, rfl, rfl, rfl, rfl, _, bytesSent_le _, rfl⟩⟩
  · obtain rfl := loadResponse_of_not_ok hr (hx.symm.trans he)
    have htxs := congrArg Transport.txs (cycleSent_link hw op opd)
    exact ⟨rfl, rfl, .inr ⟨htxs, rfl, .inl ⟨rfl, rfl, rfl, rfl, rfl, rfl, hcrc, rfl, rfl, rfl, rfl⟩⟩⟩
  · have htxs := congrArg Transport.txs (cycleSent_link hw op opd)
    obtain ⟨hne, hx⟩ | ⟨heq, hx⟩ := hend
    · cases hx.symm.trans he
      exact ⟨rfl, rfl, .inr ⟨htxs, rfl, .inr ⟨rfl, rfl, rfl, rfl, rfl, rfl, .inl ⟨rfl, hne, rfl, rfl, rfl, rfl⟩⟩⟩⟩
    · cases hx.symm.trans he
      obtain ⟨hunknown, hv⟩ | ⟨hlt, hreg, hne, hv⟩ | ⟨hlt, hreg, hack, hv⟩ :=
        validateResponse_cases (markDecoded (cycleLatched op opd F s)) <;> rw [hv]
      · exact ⟨rfl, rfl, .inr ⟨htxs, rfl, .inr ⟨rfl, rfl, rfl, rfl, rfl, rfl,
          .inr ⟨heq, rfl, rfl, .inl ⟨rfl, hunknown, rfl, rfl⟩⟩⟩⟩⟩
      · exact ⟨rfl, rfl, .inr ⟨htxs, rfl, .inr ⟨rfl, rfl, rfl, rfl, rfl, rfl,
          .inr ⟨heq, rfl, rfl, .inr (.inl ⟨rfl, not_lt.mp hlt, hreg, hne, rfl, rfl⟩)⟩⟩⟩⟩
      · exact ⟨rfl, rfl, .inr ⟨htxs, rfl, .inr ⟨rfl, rfl, rfl, rfl, rfl, rfl,
          .inr ⟨heq, rfl, rfl, .inr (.inr ⟨hf, not_lt.mp hlt, hreg, hack, rfl, rfl⟩)⟩⟩⟩⟩

/-- What a `SUBMIT` without a fault leaves, of the last row of O10. -/
theorem submit_completed {op : Byte} {opd : Operand} {s t : State} (he : exec (.submit op opd) s = .next t)
    (hf : t.fault = .none) :
    t.ackOp = op ∧ registered op = true ∧ t.rspv = true ∧ t.decv = true ∧ t.rspOpd = responseOperand t.rxf := by
  obtain ⟨-, hreq, ⟨h, -⟩ | ⟨-, -, ⟨h, -⟩ | ⟨-, -, -, hopd, -, -, ⟨h, -⟩ | ⟨-, hd, -, hval⟩⟩⟩⟩ :=
    submitEndStates op opd s t he
  · cases h.symm.trans hf
  · cases h.symm.trans hf
  · cases h.symm.trans hf
  · obtain ⟨h, -⟩ | ⟨h, -⟩ | ⟨-, -, hreg, hack, -, ha⟩ := hval
    · cases h.symm.trans hf
    · cases h.symm.trans hf
    · have hop : t.ackOp = op := hack.trans hreq
      exact ⟨hop, hop ▸ hreg, ha, hd, hopd⟩

/-- Settles O52: an end without a fault has compared a registered code with the request's. -/
theorem unregisteredRequestNeverCompletes : Obligations.UnregisteredRequestNeverCompletes := by
  refine ⟨?valRsp, ?submit⟩
  case valRsp =>
    intro s t hreg he
    obtain ⟨-, ⟨⟩⟩ := (guarded_eq_next _ _ t).mp he
    obtain ⟨-, hv⟩ | ⟨-, -, -, hv⟩ | ⟨-, hheld, hack, -⟩ := validateResponse_cases s
    · rw [hv]
      exact ⟨nofun, rfl⟩
    · rw [hv]
      exact ⟨nofun, rfl⟩
    · rw [hack, hreg] at hheld
      cases hheld
  case submit =>
    intro op opd s t hreg he hf
    obtain ⟨-, hheld, -⟩ := submit_completed he hf
    rw [hreg] at hheld
    cases hheld

/-! ### The five commands one after another -/

/-- A step on a presented instruction that no `rst` follows runs it. -/
theorem step_of_present {s : State} {i : Instr} {rest : List Input} (hs : s.inputs = presentInstr i :: rest)
    (hwf : i.wellFormed = true) (hr : ∀ later, rest ≠ .rst :: later) : step s = exec i { s with inputs := rest } :=
  (step_of_decode hs (decodeOfEncodeIsTheInstruction i hwf)).trans
    (abandonIfReset_of_no_reset (s := { s with inputs := rest }) hr _)

theorem present_ne_rst (i : Instr) (rest later : List Input) : presentInstr i :: rest ≠ .rst :: later :=
  nofun

/-- The state with these inputs presented next. -/
abbrev presenting (s : State) (ins : List Input) : State := { s with inputs := ins }

theorem runSteps_of_present {s t : State} {i : Instr} {rest : List Input} (hwf : i.wellFormed = true)
    (hr : ∀ later, rest ≠ .rst :: later) (he : exec i (presenting s rest) = .next (presenting t rest)) (k : Nat) :
    runSteps (k + 1) (presenting s (presentInstr i :: rest)) = runSteps k (presenting t rest) :=
  runSteps_succ ((step_of_present (s := presenting s (presentInstr i :: rest)) rfl hwf hr).trans he) k

theorem runSteps_last (s : State) {i : Instr} (hwf : i.wellFormed = true) :
    runSteps 1 (presenting s [presentInstr i]) = exec i (presenting s []) :=
  (runSteps_one _).trans (step_of_present (s := presenting s [presentInstr i]) rfl hwf nofun)

section
variable {op : Byte} {opd : Operand} {s : State} (hf : s.fault = .none) (i : Instr) (rest : List Input) (k : Nat)
include hf

theorem runSteps_encReq (hp : s.reqPend = false) :
    runSteps (k + 1) (presenting s (presentInstr (.encReq op opd) :: presentInstr i :: rest)) =
      runSteps k (presenting (latchRequest op opd s) (presentInstr i :: rest)) :=
  runSteps_of_present (t := latchRequest op opd s) rfl (present_ne_rst i rest)
    (exec_encReq_of_met (s := presenting s (presentInstr i :: rest)) (preEncReq_eq_true.mpr ⟨hf, hp⟩) op opd) k

theorem runSteps_txSend (hp : s.reqPend = false) (hw : nextWriteAnswer s.link = .ok) :
    runSteps (k + 1) (presenting (latchRequest op opd s) (presentInstr .txSend :: presentInstr i :: rest)) =
      runSteps k (presenting (cycleSent op opd s) (presentInstr i :: rest)) :=
  runSteps_of_present (t := cycleSent op opd s) rfl (present_ne_rst i rest)
    (exec_txSend_of_ok (s := presenting (latchRequest op opd s) (presentInstr i :: rest))
      (preTxSend_eq_true.mpr ⟨hf, rfl, hp⟩) hw) k

theorem runSteps_rxLoad {F : Frame} (hr : nextReadAnswer (cycleSent op opd s).link = .ok F) :
    runSteps (k + 1) (presenting (cycleSent op opd s) (presentInstr .rxLoad :: presentInstr i :: rest)) =
      runSteps k (presenting (cycleLoaded op opd F s) (presentInstr i :: rest)) :=
  runSteps_of_present (t := cycleLoaded op opd F s) rfl (present_ne_rst i rest)
    (exec_rxLoad_of_ok (s := presenting (cycleSent op opd s) (presentInstr i :: rest))
      (preRxLoad_eq_true.mpr ⟨hf, rfl, rfl⟩) hr) k

theorem runSteps_decRsp {F : Frame} (hcrc : frameCrc F = crcField F) :
    runSteps (k + 1) (presenting (cycleLoaded op opd F s) (presentInstr .decRsp :: presentInstr i :: rest)) =
      runSteps k (presenting (markDecoded (cycleLatched op opd F s)) (presentInstr i :: rest)) :=
  runSteps_of_present (t := markDecoded (cycleLatched op opd F s)) rfl (present_ne_rst i rest)
    (exec_decRsp_of_match (s := presenting (cycleLoaded op opd F s) (presentInstr i :: rest))
      (preDecRsp_eq_true.mpr ⟨hf, rfl⟩) hcrc) k

end

/-- Settles O11: the five run until the line where the cycle ends, and that line's outcome is the cycle's. -/
theorem submitIsTheFiveCommands : Obligations.SubmitIsTheFiveCommands := by
  intro op opd s
  have hsubmit : step (presenting s [presentInstr (.submit op opd)]) = exec (.submit op opd) (presenting s []) :=
    step_of_present rfl rfl nofun
  rw [hsubmit]
  by_cases hpre : preSubmit s = true
  case neg =>
    have hunmet : preSubmit s = false := Bool.eq_false_iff.mpr hpre
    have refused : exec (.submit op opd) (presenting s []) = .refused .preconditionFails := guarded_of_unmet hunmet _
    rw [refused]
    exact ⟨1, le_refl 1, by decide, (runSteps_last s rfl).trans (guarded_of_unmet hunmet _),
      fun _ h => by cases h⟩
  case pos =>
    obtain ⟨hf, hp⟩ := preSubmit_eq_true.mp hpre
    obtain ⟨hw, hx⟩ | ⟨hw, hr, hx⟩ | ⟨F, hw, hr, ⟨hne, hx⟩ | ⟨hcrc, hx⟩⟩ :=
      exec_submit_cases (s := presenting s []) hf hp op opd <;> rw [hx]
    · refine ⟨2, by decide, by decide, ?_, fun t ht htf => ?_⟩
      · calc runSteps 2 (presenting s [presentInstr (.encReq op opd), presentInstr .txSend])
          _ = runSteps 1 (presenting (latchRequest op opd s) [presentInstr .txSend]) := runSteps_encReq hf _ _ 1 hp
          _ = exec .txSend (latchRequest op opd (presenting s [])) := runSteps_last _ rfl
          _ = _ := exec_txSend_of_met (preTxSend_eq_true.mpr ⟨hf, rfl, hp⟩)
      · rw [sendRequest_of_not_ok (s := latchRequest op opd (presenting s [])) hw ht] at htf
        cases htf
    · refine ⟨3, by decide, by decide, ?_, fun t ht htf => ?_⟩
      · calc runSteps 3 (presenting s [presentInstr (.encReq op opd), presentInstr .txSend, presentInstr .rxLoad])
          _ = runSteps 2 (presenting (latchRequest op opd s) [presentInstr .txSend, presentInstr .rxLoad]) :=
            runSteps_encReq hf _ _ 2 hp
          _ = runSteps 1 (presenting (cycleSent op opd s) [presentInstr .rxLoad]) := runSteps_txSend hf _ _ 1 hp hw
          _ = exec .rxLoad (cycleSent op opd (presenting s [])) := runSteps_last _ rfl
          _ = _ := exec_rxLoad_of_met (preRxLoad_eq_true.mpr ⟨hf, rfl, rfl⟩)
      · rw [loadResponse_of_not_ok hr ht] at htf
        cases htf
    · refine ⟨4, by decide, by decide, ?_, fun t ht htf => ?_⟩
      · calc runSteps 4 (presenting s ((cycleCommands op opd).take 4))
          _ = runSteps 3 (presenting (latchRequest op opd s)
                [presentInstr .txSend, presentInstr .rxLoad, presentInstr .decRsp]) := runSteps_encReq hf _ _ 3 hp
          _ = runSteps 2 (presenting (cycleSent op opd s) [presentInstr .rxLoad, presentInstr .decRsp]) :=
            runSteps_txSend hf _ _ 2 hp hw
          _ = runSteps 1 (presenting (cycleLoaded op opd F s) [presentInstr .decRsp]) := runSteps_rxLoad hf _ _ 1 hr
          _ = exec .decRsp (cycleLoaded op opd F (presenting s [])) := runSteps_last _ rfl
          _ = .next (checkResponse (cycleLoaded op opd F (presenting s []))) :=
            exec_decRsp_of_met (preDecRsp_eq_true.mpr ⟨hf, rfl⟩)
          _ = _ := congrArg Host.Outcome.next (checkResponse_of_mismatch hne)
      · cases ht
        cases htf
    · refine ⟨5, by decide, le_refl 5, ?_, fun _ _ _ => rfl⟩
      calc runSteps 5 (presenting s (cycleCommands op opd))
        _ = runSteps 4 (presenting (latchRequest op opd s)
              [presentInstr .txSend, presentInstr .rxLoad, presentInstr .decRsp, presentInstr .valRsp]) :=
          runSteps_encReq hf _ _ 4 hp
        _ = runSteps 3 (presenting (cycleSent op opd s)
              [presentInstr .rxLoad, presentInstr .decRsp, presentInstr .valRsp]) := runSteps_txSend hf _ _ 3 hp hw
        _ = runSteps 2 (presenting (cycleLoaded op opd F s) [presentInstr .decRsp, presentInstr .valRsp]) :=
          runSteps_rxLoad hf _ _ 2 hr
        _ = runSteps 1 (presenting (markDecoded (cycleLatched op opd F s)) [presentInstr .valRsp]) :=
          runSteps_decRsp hf _ _ 1 hcrc
        _ = exec .valRsp (markDecoded (cycleLatched op opd F (presenting s []))) := runSteps_last _ rfl
        _ = _ := exec_valRsp_of_met (preValRsp_eq_true.mpr ⟨hf, rfl, rfl⟩)

/-! ### A cycle that `rst` abandons -/

/-- What a blocked command leaves to the `rst` behind it. -/
theorem step_of_blocked {s : State} {i : Instr} {rest : List Input} {dir : XDir} {l : Transport}
    (hs : s.inputs = presentInstr i :: .rst :: rest) (hwf : i.wellFormed = true)
    (he : exec i { s with inputs := .rst :: rest } = .fault (.transportBlocked dir l)) :
    step s = .next (resetBlock { s with link := l, inputs := rest }) := by
  rw [step_of_decode hs (decodeOfEncodeIsTheInstruction i hwf), he]
  rfl

/-- A blocked step with `rst` behind it ends at the reset values, with what reached the line (70_reset_and_hazards.md R231,
R232). -/
theorem resets_of_blocked {s : State} {i : Instr} {rest : List Input} {dir : XDir} {l : Transport} {txs : List Byte}
    (hs : s.inputs = presentInstr i :: .rst :: rest) (hwf : i.wellFormed = true)
    (he : exec i (presenting s (.rst :: rest)) = .fault (.transportBlocked dir l)) (hl : l.txs = txs) :
    ∃ t : State, step s = .next t ∧ t.crc = 0x0000 ∧ t.fault = .none ∧ t.xdir = .write ∧ statusWord t = 0x000 ∧
      t.inputs = rest ∧ t.link.txs = txs :=
  ⟨_, step_of_blocked hs hwf he, rfl, rfl, rfl, statusWord_resetBlock _, rfl, hl⟩

/-- With `rst` next there is no timeout, whether or not one is configured. -/
theorem sendRequest_of_silent_rst {s : State} {rest : List Input} {k : Fin 9} (hs : s.inputs = .rst :: rest)
    (h : nextWriteAnswer s.link = .silent k) :
    sendRequest s = .fault (.transportBlocked .write (afterWrite s.link (frameBytes s.txf))) :=
  (sendRequest_of_silent h).trans (if_neg fun hto => hto.2 (by rw [hs]; rfl))

theorem loadResponse_of_silent_rst {s : State} {rest : List Input} {k : Fin 8} (hs : s.inputs = .rst :: rest)
    (h : nextReadAnswer s.link = .silent k) :
    loadResponse s = .fault (.transportBlocked .read (afterRead s.link)) :=
  (loadResponse_of_silent h).trans (if_neg fun hto => hto.2 (by rw [hs]; rfl))

theorem afterWrite_txs_of_silent {t : Transport} {k : Fin 9} (h : nextWriteAnswer t = .silent k) (bs : List Byte) :
    (afterWrite t bs).txs = t.txs ++ bs.take k := by
  rw [afterWrite_txs, h, bytesSent]

/-- Settles O19: in each of the four transfers the wait is blocked, `rst` being next. -/
theorem resetAbandonsACommandInProgress : Obligations.ResetAbandonsACommandInProgress := by
  intro s rest i hs hf resetWith
  refine ⟨?txSend, ?rxLoad, ?submitWrite, ?submitRead⟩
  case txSend =>
    rintro k rfl hv hp hw
    have blocked : exec .txSend (presenting s (.rst :: rest)) = _ :=
      (exec_txSend_of_met (s := presenting s (.rst :: rest)) (preTxSend_eq_true.mpr ⟨hf, hv, hp⟩)).trans
        (sendRequest_of_silent_rst rfl hw)
    exact resets_of_blocked hs rfl blocked (afterWrite_txs_of_silent hw _)
  case rxLoad =>
    rintro k rfl hp hr ha
    have blocked : exec .rxLoad (presenting s (.rst :: rest)) = _ :=
      (exec_rxLoad_of_met (s := presenting s (.rst :: rest)) (preRxLoad_eq_true.mpr ⟨hf, hp, hr⟩)).trans
        (loadResponse_of_silent_rst rfl ha)
    exact resets_of_blocked hs rfl blocked rfl
  case submitWrite =>
    rintro k op opd rfl hp hw
    have not_ok : nextWriteAnswer s.link ≠ .ok := hw ▸ nofun
    have blocked : exec (.submit op opd) (presenting s (.rst :: rest)) = _ :=
      (exec_submit_of_not_ok (s := presenting s (.rst :: rest)) hf hp not_ok).trans
        (sendRequest_of_silent_rst (s := latchRequest op opd (presenting s (.rst :: rest))) rfl hw)
    exact resets_of_blocked hs rfl blocked (afterWrite_txs_of_silent hw _)
  case submitRead =>
    intro k op opd hi hp hw ha
    subst hi
    have not_ok : ∀ F, nextReadAnswer (cycleSent op opd s).link ≠ .ok F := fun F h => by cases ha.symm.trans h
    have blocked : exec (.submit op opd) (presenting s (.rst :: rest)) = _ :=
      (exec_submit_of_read_not_ok (s := presenting s (.rst :: rest)) hf hp hw not_ok).trans
        (loadResponse_of_silent_rst (s := cycleSent op opd (presenting s (.rst :: rest))) rfl ha)
    exact resets_of_blocked hs rfl blocked (congrArg Transport.txs (cycleSent_link hw op opd))

/-! ### The host's `submit` -/

theorem hostSubmit_of_halted {op : OpCode} {opd : Operand} {s t : State} (he : exec (.submit op.val opd) s = .next t)
    (hf : t.fault ≠ .none) : hostSubmit op opd s = .failed t.fault t := by
  simp only [hostSubmit, he, isHalted_true.mpr hf, if_true]

/-- What the ports offer after a completed cycle is what the host asked for. -/
theorem hostSubmit_of_completed {op : OpCode} {opd : Operand} {s t : State}
    (he : exec (.submit op.val opd) s = .next t) (hf : t.fault = .none) :
    hostSubmit op opd s = .done op (interpret op (responseOperand t.rxf)) t := by
  obtain ⟨hack, -, ha, hd, hopd⟩ := submit_completed he hf
  have port_op : portAckOp t = op.val := (portAckOp_of_valid (ackPortValid_eq_true.mpr (.inl ha))).trans hack
  have port_opd : portRspOpd t = responseOperand t.rxf :=
    (responsePorts_of_valid (responsePortsValid_eq_true.mpr (.inl hd))).2.1.trans hopd
  simp only [hostSubmit, he, isHalted_false.mpr hf, interpretResult, port_op, port_opd, asOpCode_val,
    Bool.false_eq_true, if_false]

theorem hostSubmit_of_no_next {op : OpCode} {opd : Operand} {s : State}
    (he : ∀ t, exec (.submit op.val opd) s ≠ .next t) : hostSubmit op opd s = .nothing := by
  unfold hostSubmit
  cases hx : exec (.submit op.val opd) s with
  | next t => exact absurd hx (he t)
  | fault f => rfl
  | refused r => rfl

/-- Settles O58, by how the `SUBMIT` ends. -/
theorem hostSubmitReturnsTheAnsweredOpcode : Obligations.HostSubmitReturnsTheAnsweredOpcode := by
  intro op opd s
  by_cases hnext : ∃ t, exec (.submit op.val opd) s = .next t
  case pos =>
    obtain ⟨t, he⟩ := hnext
    by_cases hf : t.fault = .none
    · rw [hostSubmit_of_completed he hf]
      obtain ⟨hack, -, ha, -, -⟩ := submit_completed he hf
      exact ⟨rfl, hack, hf, ha, rfl, he⟩
    · rw [hostSubmit_of_halted he hf]
      exact ⟨rfl, hf, he⟩
  case neg =>
    rw [hostSubmit_of_no_next (not_exists.mp hnext)]
    exact not_exists.mp hnext

end Sys2Proof.Machine
end

section
/-! Who writes what (10_state.md R20; 20_memory.md R50): what each instruction leaves as it is, halted or not, and what any
step leaves of the bytes on the line (10_state.md R24, R35). -/

namespace Sys2Proof.Machine

/-- Settles O13: `NOP` has no precondition, every other command asks for `FAULT = 0`. -/
theorem haltedBlockAcceptsOnlyNop : Obligations.HaltedBlockAcceptsOnlyNop := by
  intro i s hc hf
  split
  case isTrue hi =>
    subst hi
    rfl
  case isFalse hi => exact exec_command_of_halted hf hc hi

/-! ### Items an instruction does not write -/

/-- What the updates of `DEC.RSP` leave, at both ends. -/
theorem checkResponse_frame (s : State) :
    (checkResponse s).txf = s.txf ∧ (checkResponse s).reqOp = s.reqOp ∧ (checkResponse s).txv = s.txv ∧
      (checkResponse s).reqPend = s.reqPend ∧ (checkResponse s).rxf = s.rxf ∧ (checkResponse s).rxv = s.rxv ∧
      (checkResponse s).ackOp = s.ackOp ∧ (checkResponse s).rspv = s.rspv ∧ (checkResponse s).xdir = s.xdir ∧
      (checkResponse s).link = s.link ∧ (checkResponse s).inputs = s.inputs := by
  obtain ⟨-, hc⟩ | ⟨-, hc⟩ := checkResponse_cases s <;> simp [hc]

/-- What the updates of `VAL.RSP` leave, at all three ends. -/
theorem validateResponse_frame (s : State) :
    (validateResponse s).crc = s.crc ∧ (validateResponse s).txf = s.txf ∧ (validateResponse s).reqOp = s.reqOp ∧
      (validateResponse s).txv = s.txv ∧ (validateResponse s).rxf = s.rxf ∧ (validateResponse s).rxv = s.rxv ∧
      (validateResponse s).rspOp = s.rspOp ∧ (validateResponse s).rspOpd = s.rspOpd ∧
      (validateResponse s).rspCrc = s.rspCrc ∧ (validateResponse s).decv = s.decv ∧
      (validateResponse s).xdir = s.xdir ∧ (validateResponse s).link = s.link ∧
      (validateResponse s).inputs = s.inputs := by
  obtain ⟨-, hv⟩ | ⟨-, -, -, hv⟩ | ⟨-, -, -, hv⟩ := validateResponse_cases s <;> simp [hv]

/-- No update takes anything of what is presented. -/
theorem inputs_keptByUpdates (ins : List Input) : KeptByUpdates fun t => t.inputs = ins where
  crc _ h := h
  deliverFrame _ h := h
  latchRequest _ _ h _ := h
  markSent h _ _ := h
  failWrite h _ := h
  storeResponse _ h _ := h
  failRead h _ := h
  checkResponse h _ := by simpa [checkResponse_frame] using h
  validateResponse h _ := by simpa [validateResponse_frame] using h

/-- Settles O29, instruction by instruction: the update it makes, and the items that is not listed to write. -/
theorem onlyTheListedCommandsWrite : Obligations.OnlyTheListedCommandsWrite := by
  intro i s t he sub enc
  have hins : t.inputs = s.inputs := (inputs_keptByUpdates s.inputs).of_exec rfl he
  simp only [hins, and_true]
  cases i with
  | nop =>
    cases he
    simp
  | crcClr | crcByte =>
    obtain ⟨-, ⟨⟩⟩ := (guarded_eq_next _ _ t).mp he
    simp
  | encReq =>
    obtain ⟨-, ⟨⟩⟩ := (guarded_eq_next _ _ t).mp he
    simp [enc]
  | txSend =>
    obtain ⟨-, hsend⟩ := (guarded_eq_next _ _ t).mp he
    obtain ⟨-, rfl⟩ | ⟨-, rfl⟩ | ⟨-, -, rfl⟩ := (sendRequest_eq_next s t).mp hsend <;> simp
  | rxLoad =>
    obtain ⟨-, hload⟩ := (guarded_eq_next _ _ t).mp he
    obtain ⟨F, -, rfl⟩ | ⟨-, rfl⟩ | ⟨-, -, rfl⟩ := (loadResponse_eq_next s t).mp hload <;> simp
  | decRsp =>
    obtain ⟨-, ⟨⟩⟩ := (guarded_eq_next _ _ t).mp he
    simp [checkResponse_frame s]
  | valRsp =>
    obtain ⟨-, ⟨⟩⟩ := (guarded_eq_next _ _ t).mp he
    simp [validateResponse_frame s]
  | submit => simp [sub]
  | req | reqHeartbeat | reqTecTemperature =>
    obtain ⟨-, rfl⟩ := buildRequestFrame_eq_next he
    simp [enc]
  | rsp | rspHeartbeat | rspTecTemperature =>
    cases he
    simp

/-- Settles O30, command by command. -/
theorem onlySendAndLoadTouchTheTransport : Obligations.OnlySendAndLoadTouchTheTransport := by
  intro i s t hc htx hsub he
  cases i with
  | nop =>
    cases he
    exact ⟨rfl, fun _ => rfl⟩
  | crcClr | crcByte | encReq =>
    obtain ⟨-, ⟨⟩⟩ := (guarded_eq_next _ _ t).mp he
    exact ⟨rfl, fun _ => rfl⟩
  | txSend => exact absurd rfl htx
  | rxLoad =>
    obtain ⟨-, hload⟩ := (guarded_eq_next _ _ t).mp he
    refine ⟨?_, fun h => absurd rfl h⟩
    obtain ⟨F, -, rfl⟩ | ⟨-, rfl⟩ | ⟨-, -, rfl⟩ := (loadResponse_eq_next s t).mp hload <;> rfl
  | decRsp =>
    obtain ⟨-, ⟨⟩⟩ := (guarded_eq_next _ _ t).mp he
    simp [checkResponse_frame s]
  | valRsp =>
    obtain ⟨-, ⟨⟩⟩ := (guarded_eq_next _ _ t).mp he
    simp [validateResponse_frame s]
  | submit op opd => exact absurd rfl (hsub op opd)
  | req | rsp | reqHeartbeat | rspHeartbeat | reqTecTemperature | rspTecTemperature => cases hc

/-! ### The bytes on the line -/

theorem txs_keptByUpdates (txs : List Byte) : KeptByUpdates fun t => txs <+: t.link.txs where
  crc _ h := h
  deliverFrame _ h := h
  latchRequest _ _ h _ := h
  markSent h _ _ := h.trans (afterWrite_prefix _ _)
  failWrite h _ := h.trans (afterWrite_prefix _ _)
  storeResponse _ h _ := h
  failRead h _ := h
  checkResponse h _ := by simpa [checkResponse_frame] using h
  validateResponse h _ := by simpa [validateResponse_frame] using h

theorem sendRequest_eq_fault {s : State} {f : Fault} (h : sendRequest s = .fault f) :
    f = .transportBlocked .write (afterWrite s.link (frameBytes s.txf)) := by
  unfold sendRequest at h
  split at h
  · cases h
  · cases h
  · split at h <;> cases h
    rfl

theorem loadResponse_eq_fault {s : State} {f : Fault} (h : loadResponse s = .fault f) :
    f = .transportBlocked .read (afterRead s.link) := by
  unfold loadResponse at h
  split at h
  · cases h
  · cases h
  · split at h <;> cases h
    rfl

theorem buildRequestFrame_ne_fault (op : Byte) (opd : Operand) (crc : Crc) (s : State) (f : Fault) :
    buildRequestFrame op opd crc s ≠ .fault f := by
  unfold buildRequestFrame
  split
  case isTrue =>
    intro h
    obtain ⟨-, ⟨⟩⟩ := (guarded_eq_fault _ _ _).mp h
  case isFalse => nofun

/-- What a blocked command leaves on the line: nothing is taken away. -/
theorem txs_prefix_of_blocked {i : Instr} {s : State} {dir : XDir} {l : Transport}
    (he : exec i s = .fault (.transportBlocked dir l)) : s.link.txs <+: l.txs := by
  cases i with
  | nop | rsp | rspHeartbeat | rspTecTemperature => cases he
  | crcClr | crcByte | encReq | decRsp | valRsp =>
    obtain ⟨-, ⟨⟩⟩ := (guarded_eq_fault _ _ _).mp he
  | txSend =>
    obtain ⟨-, hsend⟩ := (guarded_eq_fault _ _ _).mp he
    cases sendRequest_eq_fault hsend
    exact afterWrite_prefix _ _
  | rxLoad =>
    obtain ⟨-, hload⟩ := (guarded_eq_fault _ _ _).mp he
    cases loadResponse_eq_fault hload
    exact List.prefix_refl _
  | submit op opd =>
    obtain ⟨hpre, -⟩ := (guarded_eq_fault _ _ _).mp he
    obtain ⟨hf, hp⟩ := preSubmit_eq_true.mp hpre
    obtain ⟨-, hx⟩ | ⟨-, -, hx⟩ | ⟨F, -, -, ⟨-, hx⟩ | ⟨-, hx⟩⟩ := exec_submit_cases hf hp op opd
    · cases sendRequest_eq_fault (hx.symm.trans he)
      exact afterWrite_prefix _ _
    · cases loadResponse_eq_fault (hx.symm.trans he)
      exact afterWrite_prefix _ _
    · cases hx.symm.trans he
    · cases hx.symm.trans he
  | req | reqHeartbeat | reqTecTemperature => exact absurd he (buildRequestFrame_ne_fault _ _ _ s _)

/-- Settles O26: `rst` keeps the line, an instruction adds to it, also one that `rst` abandons. -/
theorem transmitStreamIsAppendOnly : Obligations.TransmitStreamIsAppendOnly := by
  intro s t hst
  obtain ⟨-, rfl⟩ | ⟨rest, -, rfl⟩ | ⟨p, rest, i, -, -, he⟩ := (step_eq_next s t).mp hst
  · exact List.prefix_refl _
  · exact List.prefix_refl _
  · obtain he | ⟨dir, l, _, hblocked, -, rfl⟩ := (abandonIfReset_eq_next _ _ t).mp he
    · exact (txs_keptByUpdates s.link.txs).of_exec (s := presenting s rest) (List.prefix_refl s.link.txs) he
    · exact txs_prefix_of_blocked (s := presenting s rest) hblocked

/-! ### While a request is outstanding -/

/-- With a request outstanding the commands that send or build a request are refused. -/
theorem exec_keeps_request {i : Instr} {s t : State} (hp : s.reqPend = true) (he : exec i s = .next t) :
    t.link.txs = s.link.txs ∧ t.txf = s.txf ∧ t.reqOp = s.reqOp := by
  have hEnc : preEncReq s = false := preEncReq_eq_false.mpr (.inr hp)
  have hTx : preTxSend s = false := preTxSend_eq_false.mpr (.inr (.inr hp))
  cases i with
  | nop | rsp | rspHeartbeat | rspTecTemperature =>
    cases he
    exact ⟨rfl, rfl, rfl⟩
  | crcClr | crcByte =>
    obtain ⟨-, ⟨⟩⟩ := (guarded_eq_next _ _ t).mp he
    exact ⟨rfl, rfl, rfl⟩
  | encReq op opd => cases (exec_encReq_of_unmet hEnc op opd).symm.trans he
  | txSend => cases (exec_txSend_of_unmet hTx).symm.trans he
  | rxLoad =>
    obtain ⟨-, hload⟩ := (guarded_eq_next _ _ t).mp he
    obtain ⟨F, -, rfl⟩ | ⟨-, rfl⟩ | ⟨-, -, rfl⟩ := (loadResponse_eq_next s t).mp hload <;> exact ⟨rfl, rfl, rfl⟩
  | decRsp =>
    obtain ⟨-, ⟨⟩⟩ := (guarded_eq_next _ _ t).mp he
    simp [checkResponse_frame s]
  | valRsp =>
    obtain ⟨-, ⟨⟩⟩ := (guarded_eq_next _ _ t).mp he
    simp [validateResponse_frame s]
  | submit op opd => cases (guarded_of_unmet hEnc _).symm.trans he
  | req | reqHeartbeat | reqTecTemperature =>
    obtain ⟨hpre, -⟩ := buildRequestFrame_eq_next he
    simp [hEnc] at hpre

/-- Settles O27: the steps that take a `rst` are the two the premises leave out. -/
theorem oneRequestOutstanding : Obligations.OneRequestOutstanding := by
  intro s t hp hrst habandoned hst
  obtain ⟨-, rfl⟩ | ⟨rest, hin, -⟩ | ⟨p, rest, i, hin, -, he⟩ := (step_eq_next s t).mp hst
  · exact ⟨rfl, rfl, rfl⟩
  · exact absurd hin (hrst rest)
  · obtain he | ⟨dir, l, later, -, hrest, rfl⟩ := (abandonIfReset_eq_next _ _ t).mp he
    · exact exec_keeps_request (s := presenting s rest) hp he
    · obtain rfl : rest = .rst :: later := hrest
      exact absurd rfl (habandoned p later hin)

end Sys2Proof.Machine
end

section
/-! One step on what is presented, and the frame rows (30_encoding.md R80 to R82, R95): a request frame runs as `ENC.REQ`, a
response frame becomes an answer of the transport (log entry 8). -/

namespace Sys2Proof.Machine

/-- Settles O46: the step runs the instruction, and only a blocked one leaves anything to a `rst`. -/
theorem aStepRunsTheDecodedInstruction : Obligations.AStepRunsTheDecodedInstruction := by
  refine ⟨fun s hs => (step_eq_next s s).mpr (.inl ⟨hs, rfl⟩), fun s p rest i hs hd => ?_⟩
  rw [step_of_decode hs hd]
  cases exec i { s with inputs := rest } with
  | next t => rfl
  | refused r => rfl
  | fault f =>
    obtain ⟨dir, l⟩ := f
    cases rest with
    | nil => rfl
    | cons input later => cases input <;> rfl

/-! ### Request frames -/

theorem buildRequestFrame_of_crc (op : Byte) (opd : Operand) (s : State) :
    buildRequestFrame op opd (requestCrc op opd) s = execEncReq op opd s :=
  if_pos rfl

theorem buildRequestFrame_of_wrong_crc {op : Byte} {opd : Operand} {crc : Crc} (h : crc ≠ requestCrc op opd)
    (s : State) : buildRequestFrame op opd crc s = .refused (.notEncoded crc) :=
  if_neg h

/-- The three request rows are one: the named ones are those of opcodes 0 and 1. -/
theorem requestRows_eq (op : Byte) (opd : Operand) (crc : Crc) (s : State) :
    exec (.req op opd crc) s = buildRequestFrame op opd crc s ∧
      (op = 0 → exec (.reqHeartbeat opd crc) s = buildRequestFrame op opd crc s) ∧
        (op = 1 → exec (.reqTecTemperature opd crc) s = buildRequestFrame op opd crc s) := by
  refine ⟨rfl, ?_, ?_⟩ <;> rintro rfl <;> rfl

/-- What all three request rows answer, from what `buildRequestFrame` does. -/
theorem requestRows_answer {op : Byte} {opd : Operand} {crc : Crc} {s : State} {o : Out}
    (h : buildRequestFrame op opd crc s = o) :
    exec (.req op opd crc) s = o ∧ (op = 0 → exec (.reqHeartbeat opd crc) s = o) ∧
      (op = 1 → exec (.reqTecTemperature opd crc) s = o) := by
  obtain ⟨hreq, hheartbeat, htec⟩ := requestRows_eq op opd crc s
  exact ⟨hreq.trans h, fun h0 => (hheartbeat h0).trans h, fun h1 => (htec h1).trans h⟩

theorem latchRequest_eq (op : Byte) (opd : Operand) (s : State) :
    latchRequest op opd s =
      { s with
        txf := requestFrame 0xAA op opd (requestCrc op opd), reqOp := op, crc := requestCrc op opd, txv := true } := by
  rw [latchRequest, crcField_encodeRequest]
  rfl

/-- Settles O47, row by row from `buildRequestFrame`. -/
theorem requestFrameRowsRunAsEncReq : Obligations.RequestFrameRowsRunAsEncReq := by
  refine ⟨fun op opd s hf hp => ?built, fun op opd s h => ?unmet, fun op opd crc s h => ?wrong⟩
  case built =>
    exact requestRows_answer ((buildRequestFrame_of_crc op opd s).trans
      ((exec_encReq_of_met (preEncReq_eq_true.mpr ⟨hf, hp⟩) op opd).trans
        (congrArg Host.Outcome.next (latchRequest_eq op opd s))))
  case unmet =>
    exact requestRows_answer ((buildRequestFrame_of_crc op opd s).trans
      (exec_encReq_of_unmet (preEncReq_eq_false.mpr h) op opd))
  case wrong => exact requestRows_answer (buildRequestFrame_of_wrong_crc h s)

/-! ### Response frames -/

/-- Settles O48: the three response rows are one, the named ones being those of opcode bytes 0x7F and 0x80. -/
theorem responseFrameRowsReachTheTransport : Obligations.ResponseFrameRowsReachTheTransport := by
  intro sync rop opd crc s delivered
  refine ⟨rfl, ?_, ?_⟩ <;> rintro rfl <;> rfl

/-- The state after a response frame is presented: the transport will return it (log entry 8). -/
def delivered (F : Frame) (s : State) : State :=
  { s with link := deliverFrame F s.link }

theorem exec_responseRow {sync rop : Byte} {opd : Operand} {crc : Crc} {i : Instr}
    (hd : decode (encodeResponseRow sync rop opd crc) = .ok i) (s : State) :
    exec i s = .next (delivered (responseFrame sync rop opd crc) s) := by
  cases (decode_encodeResponseRow sync rop opd crc).symm.trans hd
  split
  case isTrue h =>
    rw [h]
    rfl
  case isFalse =>
    split
    case isTrue h =>
      rw [h]
      rfl
    case isFalse => rfl

/-- Whichever row its opcode byte belongs to, a response frame presented is delivered. -/
theorem step_of_responseRow {s : State} {sync rop : Byte} {opd : Operand} {crc : Crc} {rest : List Input}
    (hs : s.inputs = .present (encodeResponseRow sync rop opd crc) :: rest) :
    step s = .next (delivered (responseFrame sync rop opd crc) (presenting s rest)) := by
  have hd := decode_encodeResponseRow sync rop opd crc
  rw [step_of_decode hs hd, exec_responseRow hd]
  rfl

/-- With no other answer fixed, the frame delivered is the next one. -/
theorem nextReadAnswer_delivered {s : State} (h : s.link.readScript = []) (F : Frame) :
    nextReadAnswer (delivered F s).link = .ok F := by
  simp [nextReadAnswer, delivered, h]

/-- The frame delivered is what `RX.LOAD` reads and `DEC.RSP` decodes. -/
theorem runSteps_delivered {s : State} (hf : s.fault = .none) (hp : s.reqPend = true) (hr : s.rxv = false)
    (hscript : s.link.readScript = []) (F : Frame) :
    runSteps 2 (presenting (delivered F s) [presentInstr .rxLoad, presentInstr .decRsp]) =
      .next (checkResponse (presenting (storeResponse F (delivered F s)) [])) :=
  calc runSteps 2 (presenting (delivered F s) [presentInstr .rxLoad, presentInstr .decRsp])
    _ = runSteps 1 (presenting (storeResponse F (delivered F s)) [presentInstr .decRsp]) :=
      runSteps_of_present (t := storeResponse F (delivered F s)) rfl (present_ne_rst _ _)
        (exec_rxLoad_of_ok (s := presenting (delivered F s) [presentInstr .decRsp])
          (preRxLoad_eq_true.mpr ⟨hf, hp, hr⟩) (nextReadAnswer_delivered hscript F)) 1
    _ = exec .decRsp (presenting (storeResponse F (delivered F s)) []) := runSteps_last _ rfl
    _ = _ := exec_decRsp_of_met (s := presenting (storeResponse F (delivered F s)) [])
      (preDecRsp_eq_true.mpr ⟨hf, rfl⟩)

/-- Settles O49: the frame delivered is the next answer, `RX.LOAD` reads it and `DEC.RSP` compares its CRC. -/
theorem aPresentedResponseIsDecoded : Obligations.APresentedResponseIsDecoded := by
  intro sync rop opd crc s hf hp hr hd hscript
  have hopd : responseOperand (responseFrame sync rop opd crc) = opd := responseOperand_responseFrame sync rop opd crc
  have hfield : crcField (responseFrame sync rop opd crc) = crc := crcField_responseFrame sync rop opd crc
  have used : (s.link.readScript ++ [ReadAnswer.ok (responseFrame sync rop opd crc)]).tail = [] := by
    rw [hscript]
    rfl
  have first := step_of_responseRow (s := presenting s [.present (encodeResponseRow sync rop opd crc),
    presentInstr .rxLoad, presentInstr .decRsp]) rfl
  refine ⟨_, (runSteps_succ first 2).trans (runSteps_delivered hf hp hr hscript _), ?_⟩
  obtain ⟨hcrc, hc⟩ | ⟨hne, hc⟩ := checkResponse_cases (presenting (storeResponse (responseFrame sync rop opd crc)
    (delivered (responseFrame sync rop opd crc) s)) []) <;> rw [hc]
  · exact ⟨rfl, hopd, hfield, rfl, hp, used, rfl, .inl ⟨rfl, hf, hfield.symm.trans hcrc.symm⟩⟩
  · exact ⟨rfl, hopd, hfield, rfl, hp, used, rfl, .inr ⟨hd, rfl, fun h => hne (h.symm.trans hfield.symm)⟩⟩

end Sys2Proof.Machine
end

section
/-! The registry: what the subtraction of the offset finds in it (43_validate_and_cycle.md R151), which sets it can be
(00_scope.md R6), and the operations its codes name on the host's side (45_host_contract.md R170, R171). -/

namespace Sys2Proof.Machine

/-! ### The offset's removal -/

theorem toNat_sub_ackOffset_of_le {b : Byte} (h : 127 ≤ b.toNat) : (b - 127).toNat = b.toNat - 127 :=
  BitVec.toNat_sub_of_le h

theorem toNat_sub_ackOffset_of_lt {b : Byte} (h : b.toNat < 127) : (b - 127).toNat = b.toNat + 129 := by
  rw [BitVec.toNat_sub, show (127 : Byte).toNat = 127 from rfl]
  omega

theorem registryHolds_eq_false (mask : BitVec 37) {c : Byte} (h : 36 < c.toNat) : registryHolds mask c = false :=
  Bool.eq_false_iff.mpr fun hc => absurd (registryHolds_le mask c hc) (by omega)

/-- Settles O50: below the offset the difference wraps to 129 or more, and above 163 it is more than 36. -/
theorem belowTheOffsetIsUnrecognized : Obligations.BelowTheOffsetIsUnrecognized := by
  refine fun mask b => ⟨fun h => ?wrapped, toNat_sub_ackOffset_of_le, fun h => ?above⟩
  case wrapped => exact registryHolds_eq_false mask (by rw [toNat_sub_ackOffset_of_lt h]; omega)
  case above => exact registryHolds_eq_false mask (by rw [toNat_sub_ackOffset_of_le (by omega)]; omega)

/-! ### Which sets a registry can be -/

/-- The mask of a list of codes. -/
def maskOf (codes : List Byte) : BitVec 37 :=
  BitVec.ofFnLE fun i => decide (BitVec.ofNat 8 i.val ∈ codes)

theorem getLsbD_maskOf {codes : List Byte} {c : Byte} (h : c.toNat ≤ 36) :
    (maskOf codes).getLsbD c.toNat = decide (c ∈ codes) := by
  rw [maskOf, BitVec.getLsbD_ofFnLE, dif_pos (by omega), BitVec.ofNat_toNat, BitVec.setWidth_eq]

/-- Settles O51: a registry from its mask, and the mask of a set of codes (`maskOf`). -/
theorem registryIsAnySubsetWithZeroAndOne : Obligations.RegistryIsAnySubsetWithZeroAndOne := by
  refine ⟨fun mask => ⟨registryHolds_heartbeat mask, registryHolds_tecTemperature mask, registryHolds_le mask⟩, ?_⟩
  intro codes h0 h1 hle
  refine ⟨maskOf codes, fun c => ⟨fun hc => ?held, fun hc => ?listed⟩⟩
  case held =>
    have hmask := getLsbD_maskOf (codes := codes) (registryHolds_le _ c hc)
    simp only [registryHolds, hmask, Bool.or_eq_true, beq_iff_eq, decide_eq_true_eq] at hc
    obtain (rfl | rfl) | hc := hc
    · exact h0
    · exact h1
    · exact hc
  case listed => simp [registryHolds, getLsbD_maskOf (hle c hc), hc]

/-! ### The operation a code names -/

/-- The named operations go to the first codes, in the order of both lists. -/
theorem operationOf_of_lt {c : OpCode} (h : heldCodes.idxOf c < namedOperations.length) :
    operationOf c = namedOperations[heldCodes.idxOf c] := by
  rw [operationOf, List.getElem?_eq_getElem h, Option.getD_some]

/-- A code beyond them names the operation known by that code alone. -/
theorem operationOf_of_le {c : OpCode} (h : namedOperations.length ≤ heldCodes.idxOf c) :
    operationOf c = .other c.val := by
  rw [operationOf, List.getElem?_eq_none h, Option.getD_none]

theorem other_not_mem_namedOperations (b : Byte) : .other b ∉ namedOperations :=
  fun h => ((mem_namedOperations _).mp h).1 b rfl

theorem operationOf_injective {c d : OpCode} (h : operationOf c = operationOf d) : c = d := by
  by_cases hc : heldCodes.idxOf c < namedOperations.length <;>
    by_cases hd : heldCodes.idxOf d < namedOperations.length
  · rw [operationOf_of_lt hc, operationOf_of_lt hd] at h
    exact (List.idxOf_inj (mem_heldCodes c)).mp (namedOperations_nodup.getElem_inj_iff.mp h)
  · rw [operationOf_of_lt hc, operationOf_of_le (not_lt.mp hd)] at h
    exact absurd (h ▸ List.getElem_mem hc) (other_not_mem_namedOperations _)
  · rw [operationOf_of_le (not_lt.mp hc), operationOf_of_lt hd] at h
    exact absurd (h ▸ List.getElem_mem hd) (other_not_mem_namedOperations _)
  · rw [operationOf_of_le (not_lt.mp hc), operationOf_of_le (not_lt.mp hd)] at h
    exact Subtype.ext (Operation.other.inj h)

/-- Opcode 1 is second in the registry, and so is TEC temperature among the named operations (R171). -/
theorem operationOf_of_val_eq_one {c : OpCode} (h : c.val = 1) : operationOf c = .tecTemperature := by
  obtain rfl : c = ⟨Config.tecTemperature, registryHolds_tecTemperature _⟩ := Subtype.ext h
  obtain ⟨rest, begins⟩ := heldCodes_begin
  have second : heldCodes.idxOf ⟨Config.tecTemperature, registryHolds_tecTemperature _⟩ = 1 := by
    rw [begins, List.idxOf_cons_ne _ (by simp [Subtype.ext_iff, Config.heartbeat, Config.tecTemperature]),
      List.idxOf_cons_self]
  rw [operationOf, second]
  rfl

/-- No code names get temperature where that is the TEC temperature operation itself. -/
theorem operationOf_ne_getTemperature (h : Config.temperatureIsTec = true) (c : OpCode) :
    operationOf c ≠ .getTemperature := by
  intro hc
  by_cases hlt : heldCodes.idxOf c < namedOperations.length
  · rw [operationOf_of_lt hlt] at hc
    have hmem : Operation.getTemperature ∈ namedOperations := hc ▸ List.getElem_mem hlt
    simp [((mem_namedOperations _).mp hmem).2 rfl] at h
  · cases (operationOf_of_le (not_lt.mp hlt)).symm.trans hc

theorem registeredAs_operationOf (c : OpCode) : registeredAs (operationOf c) = operationOf c :=
  if_neg fun ⟨hc, h⟩ => operationOf_ne_getTemperature h c hc

/-! ### The code of an operation -/

theorem operationCode_eq_some_iff {o : Operation} {c : OpCode} :
    operationCode o = some c ↔ operationOf c = registeredAs o := by
  constructor
  case mp =>
    intro h
    simpa using List.find?_some h
  case mpr =>
    intro h
    cases hfind : operationCode o with
    | none =>
      have hnot := List.find?_eq_none.mp hfind c (mem_heldCodes c)
      simp [h] at hnot
    | some d =>
      have hd : operationOf d = registeredAs o := by simpa using List.find?_some hfind
      rw [operationOf_injective (hd.trans h.symm)]

/-- An operation in the list has the code at its place, if the registry goes that far. -/
theorem exists_operationOf {o : Operation} (ho : o ∈ namedOperations) (hlen : namedOperations.length ≤ heldCodes.length) :
    ∃ c, operationOf c = o := by
  obtain ⟨n, hn, rfl⟩ := List.getElem_of_mem ho
  have hidx : heldCodes.idxOf heldCodes[n] = n := heldCodes_nodup.idxOf_getElem n (by omega)
  refine ⟨heldCodes[n], ?_⟩
  rw [operationOf, hidx, List.getElem?_eq_getElem hn, Option.getD_some]

/-- What an operation of the source is registered as is in the list. -/
theorem registeredAs_mem_namedOperations {o : Operation} (ho : ∀ b, o ≠ .other b) : registeredAs o ∈ namedOperations := by
  unfold registeredAs
  split
  case isTrue => exact (mem_namedOperations _).mpr ⟨nofun, nofun⟩
  case isFalse h =>
    exact (mem_namedOperations o).mpr ⟨ho, fun hget => Bool.eq_false_iff.mpr fun htec => h ⟨hget, htec⟩⟩

/-- Settles O59: codes and named operations are two lists without repetition, matched place by place. -/
theorem eachRegisteredCodeNamesOneOperation : Obligations.EachRegisteredCodeNamesOneOperation := by
  refine ⟨fun c d => operationOf_injective, fun c => ⟨operationOf_of_val_eq_zero, operationOf_of_val_eq_one⟩, ?code,
    ?named, ?coded⟩
  case code => exact fun c => operationCode_eq_some_iff.mpr (registeredAs_operationOf c).symm
  case named =>
    intro o c h
    rw [operationCode_eq_some_iff, registeredAs] at h
    split at h
    case isTrue hget => exact .inr ⟨hget.1, h⟩
    case isFalse => exact .inl h
  case coded =>
    by_cases hlen : heldCodes.length < namedOperations.length
    · exact .inr hlen
    · refine .inl fun o ho => ?_
      obtain ⟨c, hc⟩ := exists_operationOf (registeredAs_mem_namedOperations ho) (not_lt.mp hlen)
      rw [operationCode_eq_some_iff.mpr hc]
      rfl

end Sys2Proof.Machine
end
